-- ==== Sys2Proof/Word.lean ====
section
/-! DEFINITION. The words the part works with: bytes in the exchange area, Clock values, and points in output or cell units. -/

namespace Sys2Proof

/-- One byte of a record in the exchange area. -/
abbrev Byte := BitVec 8

/-- A Clock value, 48 bits (R187). Adding to it wraps modulo 2^48, as R188 asks of deadlines. -/
abbrev Time := BitVec 48

/-- A point, or a velocity, on two axes. Components are signed: predictions and
differences may be negative (R27, R34). -/
structure Pt where
  x : Int
  y : Int
  deriving DecidableEq, Repr

end Sys2Proof
end

