-- ==== Sys2Proof/Syntax.lean ====
section
/-! DEFINITION. The commands the part takes: one constructor of `Instr` per row of
`spec/opcode_table.json`, with the operands that the spec's text gives the event. -/

namespace Sys2Proof

/-- The two surfaces. -/
inductive Surface where
  | pad
  | screen
  deriving DecidableEq, Repr

/-- The tool code of a pen link record (Table 5-2). `other` stands for every code that is
neither PEN nor ERASER, which makes the record malformed (R93). -/
inductive ToolCode where
  | pen
  | eraser
  | other
  deriving DecidableEq, Repr

/-- Whether a pen link record carried exactly the fields of Table 5-2 (R93). -/
inductive RecordLength where
  | exact
  | tooShort
  | tooLong
  deriving DecidableEq, Repr

/-- A pen link record as the link delivers it (Table 5-2, R93). `checkOk` says whether the
check value agrees with the contents. Tilts are unbounded here because a malformed record may
carry any. -/
structure PenRecord where
  length   : RecordLength
  checkOk  : Bool
  x        : BitVec 16
  y        : BitVec 16
  pressure : BitVec 12
  tiltX    : Int
  tiltY    : Int
  hover    : BitVec 8
  inRange  : Bool
  tool     : ToolCode
  button1  : Bool
  button2  : Bool
  deriving DecidableEq, Repr

/-- The bus-master accesses the part makes (R167, R178, R181, R182, R170 to R174), by which a
failure names the access that failed. -/
inductive Access where
  /-- the read of a frame slot's state byte -/
  | frameSlotRead (sf : Surface)
  /-- the writes of a frame slot -/
  | frameSlotWrite (sf : Surface)
  /-- the read of a pen slot's state byte -/
  | penSlotRead
  /-- the writes of a pen slot -/
  | penSlotWrite
  /-- the read of an event record's kind byte -/
  | eventKindRead
  /-- the writes of an event record -/
  | eventWrite
  /-- the read of a command record during examination -/
  | recordRead
  /-- the write of TAKEN into a command record -/
  | takenWrite
  /-- a read of a parameter list or a zone record by the command in flight -/
  | dataRead
  /-- a write of a snapshot record by the command in flight -/
  | snapshotWrite
  /-- the writes of a command's result and final state (step 3 of R171) -/
  | finalWrite
  deriving DecidableEq, Repr

/-- The part's commands: the rows of `spec/opcode_table.json`, in the table's order. -/
inductive Instr where
  /-- POWER_ON_RESET; the operand is the level the KEYACT line has at the reset (R189) -/
  | powerOnReset (keyact : Bool)
  /-- RESET_LINE; the operand is the level the KEYACT line has at the reset (R189) -/
  | resetLine (keyact : Bool)
  /-- START_WORD: START(k) on a frame link -/
  | startWord (sf : Surface) (k : BitVec 8)
  /-- CELL_WORD: CELL(v), v signed in −4096..4095 -/
  | cellWord (sf : Surface) (v : BitVec 13)
  /-- END_WORD -/
  | endWord (sf : Surface)
  /-- FRAME_START: the frame in the processing place begins -/
  | frameStart (sf : Surface)
  /-- FRAME_PROCESSING_END -/
  | frameProcessingEnd (sf : Surface)
  /-- PEN_RECORD -/
  | penRecord (r : PenRecord)
  /-- PEN_TIMEOUT_EXPIRY -/
  | penTimeoutExpiry
  /-- LINGER_EXPIRY -/
  | lingerExpiry
  /-- KEYACT_RISING_EDGE -/
  | keyactRisingEdge
  /-- TYPING_GUARD_EXPIRY -/
  | typingGuardExpiry
  /-- PENDING_TAP_EXPIRY -/
  | pendingTapExpiry
  /-- DRAG_LOCK_EXPIRY -/
  | dragLockExpiry
  /-- RUN_SET: RUN of CONTROL written 1 -/
  | runSet
  /-- RUN_CLEAR: RUN of CONTROL written 0 -/
  | runClear
  /-- STOP_END -/
  | stopEnd
  /-- NOTICE: NOTICE of CONTROL written 1 -/
  | notice
  /-- ATTN_MASK_WRITE: the value written to CONTROL bits 8..14 -/
  | attnMaskWrite (mask : BitVec 7)
  /-- STATUS_CAUSE_CLEAR: the 32-bit value written to STATUS -/
  | statusCauseClear (value : BitVec 32)
  /-- FAULT_CLEAR: 1 written to the FAULT cause of STATUS -/
  | faultClear
  /-- REGISTER_WRITE: the offset in the register window and the 32-bit value -/
  | registerWrite (offset : BitVec 8) (value : BitVec 32)
  /-- CLOCK_LO_READ -/
  | clockLoRead
  /-- COMMAND_EXAMINATION: the 64 bytes read, byte j in bits 8j+7..8j -/
  | commandExamination (record : BitVec 512)
  /-- LOAD_BANK performed; the operand is the list data read: the head, then the entries,
  8 bytes each, byte j in bits 8j+7..8j -/
  | loadBank (data : List (BitVec 64))
  /-- LOAD_ZONES performed; the operand is the zone records read, 16 bytes each -/
  | loadZones (records : List (BitVec 128))
  /-- SET_POSTURE_MAP performed -/
  | setPostureMap
  /-- SET_POSTURE performed -/
  | setPosture
  /-- SET_SURFACE performed -/
  | setSurface
  /-- SET_HAND performed -/
  | setHand
  /-- SET_PUBLISH performed -/
  | setPublish
  /-- CLEAR_TRACKING performed -/
  | clearTracking
  /-- SLEEP performed -/
  | sleep
  /-- WAKE performed -/
  | wake
  /-- SNAPSHOT performed -/
  | snapshot
  /-- COMMAND_COMPLETION: the final state write has succeeded -/
  | commandCompletion
  /-- FRAME_SLOT_STATE_READ: the state byte read -/
  | frameSlotStateRead (sf : Surface) (state : Byte)
  /-- FRAME_SLOT_PUBLISHED: the FULL write has succeeded -/
  | frameSlotPublished (sf : Surface)
  /-- PEN_SLOT_STATE_READ: the state byte read -/
  | penSlotStateRead (state : Byte)
  /-- PEN_SLOT_PUBLISHED -/
  | penSlotPublished
  /-- EVENT_KIND_READ: the kind byte read -/
  | eventKindRead (kind : Byte)
  /-- EVENT_PUBLISHED -/
  | eventPublished
  /-- ACCESS_FAILURE: the access that failed and its area offset -/
  | accessFailure (acc : Access) (offset : BitVec 32)
  /-- READ_TIMEOUT: the read that got no completion and its area offset -/
  | readTimeout (acc : Access) (offset : BitVec 32)
  /-- FAULT_RECORDED: a fault record write has succeeded -/
  | faultRecorded
  /-- FAULT_RECORD_WRITE_FAILURE -/
  | faultRecordWriteFailure
  /-- CLOCK_TICK -/
  | clockTick
  /-- KEYACT_FALLING_EDGE -/
  | keyactFallingEdge
  deriving DecidableEq, Repr

end Sys2Proof
end

