-- ==== Sys2Proof/Config.lean ====
section
/-! DEFINITION. What the part fixes for good: grid sizes, capacities, the exchange-area map and
the identification word. The manual leaves no result of an operation undefined, so there is no
opaque free value here. -/

namespace Sys2Proof.Config

/-- Columns of a surface's grid (00_scope.md, Cell coordinates). -/
def cols : Surface → Nat
  | .pad => 22
  | .screen => 48

/-- Rows of a surface's grid. -/
def rows : Surface → Nat
  | .pad => 14
  | .screen => 32

/-- Cells of one frame. -/
def cells (sf : Surface) : Nat := cols sf * rows sf

/-- Contact table capacity (R43). -/
def tableSlots : Surface → Nat
  | .pad => 5
  | .screen => 10

/-- The blob limit (R18). -/
def blobLimit : Surface → Nat
  | .pad => 8
  | .screen => 16

/-- Entries that fit a frame slot (R176, Table 8-9). -/
def slotEntries : Surface → Nat
  | .pad => 8
  | .screen => 16

/-- Area offset of a surface's frame slots (Table 8-3). -/
def frameSlotsAt : Surface → Nat
  | .pad => 0x1000
  | .screen => 0x1400

/-- Bytes of a surface's frame slot (Table 8-3). -/
def frameSlotSize : Surface → Nat
  | .pad => 256
  | .screen => 512

/-- Area offset of the fault record (Table 8-3). -/
def faultRecordAt : Nat := 0x0400
/-- Area offset of the event strip. -/
def eventStripAt : Nat := 0x0800
/-- Area offset of the pen slots. -/
def penSlotsAt : Nat := 0x0C00
/-- First offset of the configuration space. -/
def configFirst : Nat := 0x2000
/-- First offset past the configuration space. -/
def configEnd : Nat := 0x4000

/-- IDENT (R160). -/
def ident : BitVec 32 := 0x47246001#32

/-- Microseconds after which an unanswered read fails (R195). -/
def readTimeout : Nat := 10000

end Sys2Proof.Config
end

