-- ==== Sys2Proof/WellFormed.lean ====
section
/-! DEFINITION. Which commands are well formed. Most operands are bounded by their types; the
checks here are those the spec gives beyond that. -/

namespace Sys2Proof

/-- Whether an access is a read (only a read can time out, R195). -/
def Access.isRead : Access → Bool
  | .frameSlotRead _ | .penSlotRead | .eventKindRead | .recordRead | .dataRead => true
  | .frameSlotWrite _ | .penSlotWrite | .eventWrite | .takenWrite | .snapshotWrite | .finalWrite => false

/-- A command's operands are ones the event can carry:
a register write names one of the seven registers (Table 8-1), an access lies in the 16 KiB
exchange area (R167), a timeout is of a read (R195), and no more list data or zone records are
read than a command can name (R151: a head and 120 entries; R156: 16 records). -/
def Instr.wellFormed : Instr → Bool
  | .registerWrite offset _ => offset.toNat % 4 == 0 && decide (offset.toNat ≤ 0x18)
  | .loadBank data => decide (data.length ≤ 121)
  | .loadZones records => decide (records.length ≤ 16)
  | .accessFailure _ offset => decide (offset.toNat < Config.configEnd)
  | .readTimeout acc offset => acc.isRead && decide (offset.toNat < Config.configEnd)
  | _ => true

end Sys2Proof
end

