-- ==== Sys2Proof/Machine/Types.lean ====
section
/-! DEFINITION. The plain data the blocks of the part hold: enumerations, parameters, frames,
contacts, gestures, samples, events and the records of each block (00_scope.md Table 1). -/

namespace Sys2Proof.Machine

/-! ### Enumerations -/

/-- RUN_STATE (Table 8-2). -/
inductive RunState where
  | off
  | running
  | doze
  | halted
  deriving DecidableEq, Repr

/-- Surface states (Table 1-3). -/
inductive SurfaceState where
  | inactive
  | settling
  | active
  | watch
  deriving DecidableEq, Repr

/-- The two parameter banks (R149). -/
inductive BankId where
  | a
  | b
  deriving DecidableEq, Repr

/-- Postures (R142). -/
inductive Posture where
  | laptop
  | stand
  | tent
  | tablet
  | closed
  deriving DecidableEq, Repr

/-- Handedness (R157). -/
inductive Hand where
  | right
  | left
  deriving DecidableEq, Repr

/-- The five bus-master streams (R167). -/
inductive Stream where
  | padFrames
  | screenFrames
  | pen
  | events
  | commands
  deriving DecidableEq, Repr

/-- The STATUS causes (Table 8-2). -/
inductive Cause where
  | pad
  | screen
  | pen
  | event
  | command
  | wake
  | fault
  deriving DecidableEq, Repr

/-- Contact states (Table 3-2). -/
inductive ContactState where
  | fresh
  | held
  | coasting
  | ended
  deriving DecidableEq, Repr

/-- Contact classes (R67). -/
inductive Class where
  | undecided
  | finger
  | palm
  | ignored
  deriving DecidableEq, Repr

/-- Reasons (R67). -/
inductive Reason where
  | none
  | size
  | flat
  | edgeGrow
  | neighbour
  | typing
  | penGuard
  | zone
  | suspended
  deriving DecidableEq, Repr

/-- Gestures (Table 6-2), without TAP, which never holds the gesture place. -/
inductive Gesture where
  | drag
  | scroll
  | pinch
  | swipe3
  | swipe4
  deriving DecidableEq, Repr

/-- End outcomes (Table 6-5). -/
inductive EndOutcome where
  | completed
  | preempted
  | voided
  | withdrawn
  | postureCancelled
  | cleared
  deriving DecidableEq, Repr

/-- Event kinds (Table 8-7). -/
inductive EventKind where
  | gestureBegin
  | gestureStep
  | gestureEnd
  | tap
  | penButton
  | postureChanged
  | wake
  deriving DecidableEq, Repr

/-- Pen states (section 5.2). -/
inductive PenState where
  | away
  | hover
  | touch
  | linger
  deriving DecidableEq, Repr

/-- The pen's tool (R100). -/
inductive Tool where
  | pen
  | eraser
  deriving DecidableEq, Repr

/-! ### Parameters (Tables 7-3 to 7-5) -/

/-- Mapping parameters of one target (section 2.2). -/
structure MapParams where
  originX : Nat
  originY : Nat
  gainX   : Nat
  gainY   : Nat
  outMaxX : Nat
  outMaxY : Nat
  flipX   : Bool
  flipY   : Bool
  swap    : Bool
  deriving DecidableEq, Repr

/-- Parameters that both surface sections hold (Table 7-3, k = 1 to 24). -/
structure SurfaceParams where
  touchThreshold : Nat
  minArea        : Nat
  squared        : Bool
  settleFrames   : Nat
  mapping        : MapParams
  gate           : Nat
  coastFrames    : Nat
  filterAlpha    : Nat
  deadband       : Nat
  palmArea       : Nat
  palmRadius     : Nat
  growLimit      : Nat
  decideFrames   : Nat
  flatLimit      : Nat
  flatMinArea    : Nat
  retractFrames  : Nat
  deriving DecidableEq, Repr

/-- Pad-only parameters (Table 7-3, k = 30 to 39). -/
structure PadParams where
  gestureFloor : Nat
  scrollStart  : Nat
  pinchStart   : Nat
  swipeStart   : Nat
  tapTime      : Nat
  tapSlop      : Nat
  dragWindow   : Nat
  dragRadius   : Nat
  dragLock     : Nat
  typingGuard  : Nat
  deriving DecidableEq, Repr

/-- Screen-only parameters (Table 7-3, k = 40 to 42). `suspendAll` is pen_mode SUSPEND_ALL. -/
structure ScreenParams where
  suspendAll   : Bool
  guardMarginX : Nat
  guardMarginY : Nat
  deriving DecidableEq, Repr

/-- Pen parameters (Table 7-4). -/
structure PenParams where
  tipOn   : Nat
  tipOff  : Nat
  timeout : Nat
  linger  : Nat
  mapping : MapParams
  knotX1  : Nat
  knotX2  : Nat
  knotX3  : Nat
  knotY0  : Nat
  knotY1  : Nat
  knotY2  : Nat
  knotY3  : Nat
  knotY4  : Nat
  deriving DecidableEq, Repr

/-- Shared parameters (Table 7-5). -/
structure SharedParams where
  wakeFrames   : Nat
  publishPalms : Bool
  publishIdle  : Bool
  deriving DecidableEq, Repr

/-- One bank: the four sections (R149). -/
structure Bank where
  pad        : SurfaceParams
  padOnly    : PadParams
  screen     : SurfaceParams
  screenOnly : ScreenParams
  pen        : PenParams
  shared     : SharedParams
  deriving DecidableEq, Repr

/-- One posture map entry (R142). -/
structure MapEntry where
  bank         : BankId
  padActive    : Bool
  screenActive : Bool
  deriving DecidableEq, Repr

/-- The posture map (R142). -/
structure PostureMap where
  laptop : MapEntry
  stand  : MapEntry
  tent   : MapEntry
  tablet : MapEntry
  closed : MapEntry
  deriving DecidableEq, Repr

/-! ### Zones (R155) -/

/-- The five zone flags. -/
structure ZoneFlags where
  ignoreZone   : Bool
  palmEdge     : Bool
  typingExempt : Bool
  wake         : Bool
  noTap        : Bool
  deriving DecidableEq, Repr

/-- A present zone: a rectangle with inclusive corners, and its flags. -/
structure Zone where
  x0    : Nat
  y0    : Nat
  x1    : Nat
  y1    : Nat
  flags : ZoneFlags
  deriving DecidableEq, Repr

/-- A surface's zone table: the zone count and the places 0..15, `none` for a place not present. -/
structure ZoneTable where
  count  : Nat
  places : List (Option Zone)
  deriving DecidableEq, Repr

/-! ### Frames and blobs -/

/-- An accepted frame (R2). -/
structure Frame where
  number : BitVec 8
  time   : Time
  cells  : List Int
  gap    : Bool
  deriving DecidableEq, Repr

/-- The link decoder (R1). `opened` holds the frame number and the cells received. -/
inductive Decoder where
  | idle
  | opened (number : BitVec 8) (cells : List Int)
  | skipping
  deriving DecidableEq, Repr

/-- One lit cell (R15). -/
structure LitCell where
  col   : Nat
  row   : Nat
  value : Nat
  deriving DecidableEq, Repr

/-- A blob record (Table 1-6). -/
structure Blob where
  index   : Nat
  raster  : Nat
  area    : Nat
  signal  : Nat
  peak    : Nat
  minCol  : Nat
  maxCol  : Nat
  minRow  : Nat
  maxRow  : Nat
  edge    : Bool
  sumW    : Nat
  sumX    : Nat
  sumY    : Nat
  centroid : Pt
  flat    : Nat
  deriving DecidableEq, Repr

/-- The frame parameter snapshot (R13): bank, activity and a copy of the bank's values. -/
structure Snapshot where
  bank   : BankId
  active : Bool
  values : Bank
  deriving DecidableEq, Repr

/-- The classifier's frame view (R70), with the PEN_SUSPENDED flag of R91. -/
structure FrameView where
  enable     : Bool
  typing     : Bool
  guardOn    : Bool
  guardCount : BitVec 32
  penPos     : Option Pt
  newlySeen  : Bool
  hand       : Hand
  suspended  : Bool
  deriving DecidableEq, Repr

/-- What the processing of a begun frame still has to do (R14): nothing (a frame discarded, or
one whose results its start handed over), tracking, the doze watch, or the doze watch of a
frame that DOZE has ended under (R191). -/
inductive FrameWork where
  | discard
  | track
  | watch
  | staleWatch
  deriving DecidableEq, Repr

/-- What a frame start leaves with the frame: its snapshot, its frame view, its work, and the
zone table as it stood at the start, for the doze watch (R191). -/
structure FrameStart where
  snap  : Snapshot
  view  : FrameView
  work  : FrameWork
  zones : ZoneTable
  deriving DecidableEq, Repr

/-- The processing place's content (R6): a frame, and once it has begun, its start. -/
structure InProcess where
  frame : Frame
  start : Option FrameStart
  deriving DecidableEq, Repr

/-! ### Contacts -/

/-- A contact's flags since last publish (R56), also the flags of a handed-over entry. -/
structure ContactFlags where
  entered   : Bool
  confirmed : Bool
  retracted : Bool
  left      : Bool
  clamped   : Bool
  deriving DecidableEq, Repr

/-- A contact table entry (Table 3-1) with the retracted marker (R69). A slot is in use while
the table holds an entry with its number. `zone` is the home zone index, `none` for DEFAULT. -/
structure Contact where
  slot         : Nat
  id           : Nat
  number       : BitVec 32
  state        : ContactState
  cls          : Class
  reason       : Reason
  zone         : Option Nat
  zoneFlags    : ZoneFlags
  age          : Nat
  sinceConfirm : Option Nat
  missed       : Nat
  centroid     : Pt
  velocity     : Pt
  mapped       : Pt
  filtered     : Pt
  down         : Option Pt
  maxDisp      : Option Nat
  area         : Nat
  peak         : Nat
  signal       : Nat
  edge         : Bool
  prevArea     : Option Nat
  entered      : Time
  flags        : ContactFlags
  retractedMark : Bool
  deriving DecidableEq, Repr

/-- The frame flags of a frame slot header (Table 8-9). -/
structure FrameFlags where
  blobsDropped : Bool
  tableFull    : Bool
  penSuspended : Bool
  typingGuard  : Bool
  lostEnds     : Bool
  deriving DecidableEq, Repr

/-- An entry handed to the Publisher (R57). -/
structure Entry where
  id        : Nat
  number    : BitVec 32
  ended     : Bool
  cls       : Class
  reason    : Reason
  zone      : Option Nat
  pos       : Pt
  area      : Nat
  peak      : Nat
  confirmed : Bool
  flags     : ContactFlags
  deriving DecidableEq, Repr

/-- A frame handed to the Publisher (R57): its entries in creation order, timestamp, the
snapshot's bank, publish options and output range (for R179), and the frame flags. -/
structure Handover where
  entries : List Entry
  time    : Time
  bank    : BankId
  palms   : Bool
  idle    : Bool
  rangeX  : Nat
  rangeY  : Nat
  flags   : FrameFlags
  deriving DecidableEq, Repr

/-- The content the Publisher offers to a frame slot: the pending frame of R179, or a handover
on offer. -/
structure PendingFrame where
  entries : List Entry
  time    : Time
  bank    : BankId
  flags   : FrameFlags
  merged  : Nat
  deriving DecidableEq, Repr

/-- A bus access of a slot or record under way: the read of its state byte, with the Clock at
the request (R195), or its writes, in the order they are made, with the host addresses. -/
inductive SlotAccess where
  | none
  | reading (since : Time)
  | writing (cells : List Host.Cell)
  deriving DecidableEq, Repr

/-- The Publisher's state of one surface (section 9.1). While `access` is `none`, `pending` is
the pending frame; while an access is under way, it is the content on offer. `handed` holds
handovers not yet taken. -/
structure FramePublisher where
  index   : Nat
  count   : Nat
  pending : Option PendingFrame
  idle    : Bool
  shown   : List Nat
  handed  : List Handover
  access  : SlotAccess
  deriving DecidableEq, Repr

/-- A surface's counters (16 bits each). -/
structure SurfaceCounters where
  short          : Nat
  long           : Nat
  orphan         : Nat
  gap            : Nat
  overrun        : Nat
  settleDiscards : Nat
  blobsDropped   : Nat
  tableFull      : Nat
  confirmed      : Nat
  rejected       : Nat
  retractions    : Nat
  deriving DecidableEq, Repr

/-- Everything the part holds once per surface. `sleepClose` marks that the first frame start
after SLEEP is still to come (R61, R114). -/
structure SurfaceUnit where
  decoder     : Decoder
  lastNumber  : Option (BitVec 8)
  processing  : Option InProcess
  waiting     : Option Frame
  state       : SurfaceState
  settle      : Nat
  bankInForce : BankId
  counters    : SurfaceCounters
  table       : List Contact
  closing     : List Contact
  clearReq    : Bool
  sleepClose  : Bool
  idPointer   : Nat
  created     : BitVec 32
  enable      : Bool
  zones       : ZoneTable
  wakeRun     : Nat
  publisher   : FramePublisher
  deriving DecidableEq, Repr

/-- The screen classifier's own state (R88, R70): saved finger enable, suspension applied, last
activation count seen. -/
structure Suspension where
  saved   : Bool
  applied : Bool
  seen    : BitVec 32
  deriving DecidableEq, Repr

/-! ### Gesture Engine -/

/-- The in-service record (R121). `steps` is the step count, `lock` the drag-lock deadline. -/
structure Service where
  gesture  : Gesture
  inst     : Nat
  members  : List (Nat × Pt)
  lastSpan : Nat
  steps    : Nat
  lock     : Option Time
  deriving DecidableEq, Repr

/-- The touch sequence record (section 6.3). -/
structure Sequence where
  start      : Time
  first      : Nat
  tapPos     : Pt
  firstZone  : ZoneFlags
  maxFingers : Nat
  maxDisp    : Nat
  granted    : Bool
  retracted  : Bool
  deriving DecidableEq, Repr

/-- The reference set (R118). -/
structure Reference where
  members : List (Nat × Pt)
  span0   : Option Nat
  deriving DecidableEq, Repr

/-- The pending tap (R133). -/
structure PendingTap where
  fingers  : Nat
  pos      : Pt
  lift     : Time
  deadline : Time
  deriving DecidableEq, Repr

/-- The Gesture Engine (chapter 6). -/
structure GestureEngine where
  service   : Option Service
  sequence  : Option Sequence
  reference : Reference
  tap       : Option PendingTap
  counter   : Nat
  deriving DecidableEq, Repr

/-! ### Events -/

/-- An event record's fields (Table 8-7) but for the LOSS flag. -/
structure Event where
  kind    : EventKind
  type    : Nat
  fingers : Nat
  outcome : Nat
  inst    : Nat
  steps   : Nat
  dx      : Int
  dy      : Int
  span    : Int
  time    : Time
  deriving DecidableEq, Repr

/-- The event strip access under way (R182). `fresh` is the new event being taken, if any; the
event on offer is the oldest held one, or `fresh` when none is held. `loss` is the LOSS flag of
the record being written. -/
inductive EventAccess where
  | none
  | reading (fresh : Option Event) (since : Time)
  | writing (fresh : Option Event) (loss : Bool) (cells : List Host.Cell)
  deriving DecidableEq, Repr

/-- The Publisher's event state (section 9.3). `handed` holds what has been handed over and not
yet taken: `some` an event, `none` a drain made at a frame end. -/
structure EventPublisher where
  position  : Nat
  queue     : List Event
  loss      : Bool
  lost      : Nat
  coalesced : Nat
  handed    : List (Option Event)
  access    : EventAccess
  deriving DecidableEq, Repr

/-! ### Pen -/

/-- The flags of a published pen sample (R103). -/
structure PenFlags where
  enteredRange : Bool
  tipDown      : Bool
  tipUp        : Bool
  leftRange    : Bool
  timedOut     : Bool
  clamped      : Bool
  deriving DecidableEq, Repr

/-- A published pen sample (R103). -/
structure PenSample where
  state    : PenState
  tool     : Tool
  button1  : Bool
  button2  : Bool
  pos      : Pt
  bank     : BankId
  pressure : Nat
  tiltX    : Int
  tiltY    : Int
  hover    : BitVec 8
  flags    : PenFlags
  time     : Time
  deriving DecidableEq, Repr

/-- The last sample (R102); `clamped` keeps whether it carried CLAMPED, for R103. -/
structure LastSample where
  pos     : Pt
  bank    : BankId
  tiltX   : Int
  tiltY   : Int
  hover   : BitVec 8
  tool    : Tool
  button1 : Bool
  button2 : Bool
  time    : Time
  clamped : Bool
  deriving DecidableEq, Repr

/-- The Pen Channel (chapter 5). A button is `true` when PRESSED. -/
structure PenChannel where
  state     : PenState
  isOpen    : Bool
  last      : Option LastSample
  tool      : Tool
  button1   : Bool
  button2   : Bool
  timeout   : Option Time
  linger    : Option Time
  guardOn   : Bool
  count     : BitVec 32
  lastPos   : Option (Pt × BankId)
  linkErrors : Nat
  timeouts  : Nat
  deriving DecidableEq, Repr

/-- The Publisher's pen state (section 9.2). `pending` holds the sample and its merged count:
the pending sample, or the content on offer while an access is under way. -/
structure PenPublisher where
  index   : Nat
  pending : Option (PenSample × Nat)
  handed  : List PenSample
  access  : SlotAccess
  deriving DecidableEq, Repr

/-! ### Shared blocks -/

/-- FENCED flags (Table 8-2). -/
structure Fences where
  padFrames    : Bool
  screenFrames : Bool
  pen          : Bool
  events       : Bool
  commands     : Bool
  deriving DecidableEq, Repr

/-- CONTROL, STATUS and area base fields (section 8.1). `stopping` marks a stop in progress
(R166). Bit i of `mask` and `causes` is the i-th cause of Table 8-2, PAD first. -/
structure Registers where
  run         : Bool
  mask        : BitVec 7
  state       : RunState
  stopping    : Bool
  areaInvalid : Bool
  causes      : BitVec 7
  fenced      : Fences
  areaLo      : BitVec 32
  areaHi      : BitVec 32
  deriving DecidableEq, Repr

/-- The staging copy of LOAD_BANK (R151, R152): the copy, the list's count, the entries applied,
and the ignored and clamped counts. -/
structure Staging where
  bank    : Bank
  count   : Nat
  applied : Nat
  skipped : Nat
  clamped : Nat
  deriving DecidableEq, Repr

/-- The zone records read so far by a LOAD_ZONES (R156), with its two counts. -/
structure ZoneStaging where
  places  : List (Option Zone)
  clamped : Nat
  dropped : Nat
  deriving DecidableEq, Repr

/-- The Posture Unit (chapter 7), whose zone tables lie with the surfaces. -/
structure PostureUnit where
  posture : Posture
  map     : PostureMap
  bankA   : Bank
  bankB   : Bank
  staging : Option Staging
  zoneStaging : Option ZoneStaging
  hand    : Hand
  deriving DecidableEq, Repr

/-- How far the command in flight is (R171): being performed, or with its result known and its
final writes under way. -/
inductive CommandPhase where
  | performing
  | finishing (result : Nat) (detail : Nat) (data : List Byte)
  deriving DecidableEq, Repr

/-- The command in flight (R171): the record's index and contents, its phase, whether its TAKEN
write is known to have succeeded, the snapshot record writes under way, whether COMMANDS is to
be fenced after its result (R172), and the Clock since which its present read is outstanding. -/
structure InFlight where
  index      : Nat
  record     : BitVec 512
  phase      : CommandPhase
  taken      : Bool
  snapshot   : List Host.Cell
  fenceAfter : Bool
  since      : Time
  deriving DecidableEq, Repr

/-- A pass (R170): the index being examined, how many records it has examined before it, the
last record taken, and the Clock at the request of the record read. -/
structure Pass where
  index    : Nat
  examined : Nat
  last     : Option Nat
  since    : Time
  deriving DecidableEq, Repr

/-- The Command Unit (section 8.5). -/
structure CommandUnit where
  scan     : Nat
  rescan   : Bool
  pass     : Option Pass
  inFlight : Option InFlight
  deriving DecidableEq, Repr

/-- A failure stored by the Fault Unit (R196); `write` is false for READ. -/
structure StoredFailure where
  stream : Stream
  write  : Bool
  offset : Nat
  time   : Time
  deriving DecidableEq, Repr

/-- A fault record write in progress (R196, R197): the bytes being written, whether a further
write is to follow, and whether a clear of FAULT has overtaken it. -/
structure RecordWrite where
  cells : List Host.Cell
  again : Bool
  stale : Bool
  deriving DecidableEq, Repr

/-- The Fault Unit (chapter 11). `written` is the record state WRITTEN, else ARMED. -/
structure FaultUnit where
  written : Bool
  later   : Nat
  stored  : Option StoredFailure
  write   : Option RecordWrite
  deriving DecidableEq, Repr

/-- Line Inputs (R189): the KEYACT detector's level and the typing-guard deadline. -/
structure LineInputs where
  level : Bool
  typing : Option Time
  deriving DecidableEq, Repr

end Sys2Proof.Machine
end

