-- ==== Sys2Proof/Machine/Defaults.lean ====
section
/-! DEFINITION. The reset values of the blocks: the parameter defaults of Tables 7-3 to 7-5, the
posture map of Table 7-1, and the state tables of the chapters (Tables 1-7, 3-3, 4-4, 5-4, 6-7,
7-6, 8-14, 9-1, 10-1, 11-1). -/

namespace Sys2Proof.Machine

/-- Pad defaults of Table 7-3, k = 1 to 24, with the mapping of Table 2-1. -/
def defaultPad : SurfaceParams where
  touchThreshold := 80
  minArea := 1
  squared := true
  settleFrames := 4
  mapping := { originX := 0, originY := 0, gainX := 49920, gainY := 49152,
               outMaxX := 4095, outMaxY := 2496, flipX := false, flipY := false, swap := false }
  gate := 768
  coastFrames := 1
  filterAlpha := 192
  deadband := 2
  palmArea := 18
  palmRadius := 400
  growLimit := 5
  decideFrames := 3
  flatLimit := 40
  flatMinArea := 6
  retractFrames := 6

/-- Screen defaults of Table 7-3, k = 1 to 24. -/
def defaultScreen : SurfaceParams where
  touchThreshold := 60
  minArea := 1
  squared := true
  settleFrames := 4
  mapping := { originX := 0, originY := 0, gainX := 16384, gainY := 16384,
               outMaxX := 3008, outMaxY := 1984, flipX := false, flipY := false, swap := false }
  gate := 768
  coastFrames := 1
  filterAlpha := 192
  deadband := 2
  palmArea := 30
  palmRadius := 400
  growLimit := 5
  decideFrames := 3
  flatLimit := 40
  flatMinArea := 6
  retractFrames := 6

/-- Pad-only defaults (Table 7-3, k = 30 to 39). -/
def defaultPadOnly : PadParams where
  gestureFloor := 0
  scrollStart := 80
  pinchStart := 120
  swipeStart := 300
  tapTime := 180000
  tapSlop := 60
  dragWindow := 250000
  dragRadius := 200
  dragLock := 0
  typingGuard := 300000

/-- Screen-only defaults (Table 7-3, k = 40 to 42). -/
def defaultScreenOnly : ScreenParams where
  suspendAll := false
  guardMarginX := 600
  guardMarginY := 300

/-- Pen defaults (Table 7-4, R38). -/
def defaultPen : PenParams where
  tipOn := 40
  tipOff := 25
  timeout := 50000
  linger := 500000
  mapping := { originX := 0, originY := 0, gainX := 4096, gainY := 4096,
               outMaxX := 3008, outMaxY := 1984, flipX := false, flipY := false, swap := false }
  knotX1 := 1024
  knotX2 := 2048
  knotX3 := 3072
  knotY0 := 0
  knotY1 := 200
  knotY2 := 500
  knotY3 := 800
  knotY4 := 1023

/-- Shared defaults (Table 7-5). -/
def defaultShared : SharedParams where
  wakeFrames := 2
  publishPalms := false
  publishIdle := false

/-- A bank at its defaults (R149). -/
def defaultBank : Bank where
  pad := defaultPad
  padOnly := defaultPadOnly
  screen := defaultScreen
  screenOnly := defaultScreenOnly
  pen := defaultPen
  shared := defaultShared

/-- The default posture map (Table 7-1). -/
def defaultMap : PostureMap where
  laptop := { bank := .a, padActive := true, screenActive := true }
  stand  := { bank := .b, padActive := false, screenActive := true }
  tent   := { bank := .b, padActive := false, screenActive := true }
  tablet := { bank := .b, padActive := false, screenActive := true }
  closed := { bank := .a, padActive := false, screenActive := false }

/-- No zone flag: the flags of the home zone DEFAULT (R72). -/
def noZoneFlags : ZoneFlags where
  ignoreZone := false
  palmEdge := false
  typingExempt := false
  wake := false
  noTap := false

/-- A zone table with count 0 and every place not present (R155). -/
def emptyZones : ZoneTable where
  count := 0
  places := List.replicate 16 none

/-- No contact flag set. -/
def noContactFlags : ContactFlags where
  entered := false
  confirmed := false
  retracted := false
  left := false
  clamped := false

/-- No frame flag set. -/
def noFrameFlags : FrameFlags where
  blobsDropped := false
  tableFull := false
  penSuspended := false
  typingGuard := false
  lostEnds := false

/-- No pen flag set. -/
def noPenFlags : PenFlags where
  enteredRange := false
  tipDown := false
  tipUp := false
  leftRange := false
  timedOut := false
  clamped := false

/-- All counters of a surface at 0. -/
def zeroCounters : SurfaceCounters where
  short := 0
  long := 0
  orphan := 0
  gap := 0
  overrun := 0
  settleDiscards := 0
  blobsDropped := 0
  tableFull := 0
  confirmed := 0
  rejected := 0
  retractions := 0

/-- A surface's Publisher state after reset (Table 9-1). -/
def resetFramePublisher : FramePublisher where
  index := 0
  count := 0
  pending := none
  idle := false
  shown := []
  handed := []
  access := .none

/-- A surface after reset (Tables 1-7, 3-3, 4-4, 7-6, 9-1, 10-1). -/
def resetSurface : SurfaceUnit where
  decoder := .idle
  lastNumber := none
  processing := none
  waiting := none
  state := .inactive
  settle := 0
  bankInForce := .a
  counters := zeroCounters
  table := []
  closing := []
  clearReq := false
  sleepClose := false
  idPointer := 1
  created := 0
  enable := true
  zones := emptyZones
  wakeRun := 0
  publisher := resetFramePublisher

/-- The suspension state after reset (Table 4-4). -/
def resetSuspension : Suspension where
  saved := true
  applied := false
  seen := 0

/-- The gesture state that R130, R131 and R141 leave: nothing in service, no sequence, no
reference, no pending tap; the counter is kept. -/
def emptyGestures (counter : Nat) : GestureEngine where
  service := none
  sequence := none
  reference := { members := [], span0 := none }
  tap := none
  counter := counter

/-- The Pen Channel after reset (Table 5-4). -/
def resetPen : PenChannel where
  state := .away
  isOpen := false
  last := none
  tool := .pen
  button1 := false
  button2 := false
  timeout := none
  linger := none
  guardOn := false
  count := 0
  lastPos := none
  linkErrors := 0
  timeouts := 0

/-- The Publisher's pen state after reset (Table 9-1). -/
def resetPenPublisher : PenPublisher where
  index := 0
  pending := none
  handed := []
  access := .none

/-- The Publisher's event state after reset (Table 9-1). -/
def resetEventPublisher : EventPublisher where
  position := 0
  queue := []
  loss := false
  lost := 0
  coalesced := 0
  handed := []
  access := .none

/-- Every stream open. -/
def noFences : Fences where
  padFrames := false
  screenFrames := false
  pen := false
  events := false
  commands := false

/-- CONTROL, STATUS and the area base after power-on reset (Table 8-14). -/
def resetRegisters : Registers where
  run := false
  mask := 0
  state := .off
  stopping := false
  areaInvalid := false
  causes := 0
  fenced := noFences
  areaLo := 0
  areaHi := 0

/-- The Posture Unit after reset (Table 7-6). -/
def resetPosture : PostureUnit where
  posture := .laptop
  map := defaultMap
  bankA := defaultBank
  bankB := defaultBank
  staging := none
  zoneStaging := none
  hand := .right

/-- The Command Unit after reset (Table 8-14). -/
def resetCommand : CommandUnit where
  scan := 0
  rescan := false
  pass := none
  inFlight := none

/-- The Fault Unit after reset (Table 11-1). -/
def resetFault : FaultUnit where
  written := false
  later := 0
  stored := none
  write := none

end Sys2Proof.Machine
end

