-- ==== Sys2Proof/Machine/Bytes.lean ====
section
/-! DEFINITION. Byte order and small arithmetic: little-endian fields (section 8.4), saturating
counters and limits (00_scope.md, Conventions). -/

namespace Sys2Proof.Machine

/-- Byte j of a record read as one word, byte 0 lowest (little-endian). -/
def byteAt {w : Nat} (v : BitVec w) (j : Nat) : Byte := v.extractLsb' (8 * j) 8

/-- Byte j of a record, as a number. -/
def numAt {w : Nat} (v : BitVec w) (j : Nat) : Nat := (byteAt v j).toNat

/-- The unsigned 16-bit field at byte j. -/
def word16At {w : Nat} (v : BitVec w) (j : Nat) : Nat := (v.extractLsb' (8 * j) 16).toNat

/-- The 32-bit field at byte j. -/
def word32At {w : Nat} (v : BitVec w) (j : Nat) : BitVec 32 := v.extractLsb' (8 * j) 32

/-- The low byte of a number, as written into a one-byte field. -/
def byte1 (n : Nat) : Byte := BitVec.ofNat 8 n

/-- The `n` low bytes of a number, lowest first. -/
def leBytes (n : Nat) (v : Nat) : List Byte := (List.range n).map fun i => BitVec.ofNat 8 (v / 256 ^ i)

/-- A signed value in a two-byte field: two's complement, low byte first. -/
def signed2 (v : Int) : List Byte := leBytes 2 (v % 65536).toNat

/-- A signed value in a one-byte field. -/
def signed1 (v : Int) : Byte := BitVec.ofNat 8 (v % 256).toNat

/-- The low 32 bits of a Clock value, as a timestamp field. -/
def stampBytes (t : Time) : List Byte := leBytes 4 (t.toNat % 2 ^ 32)

/-- A number as a sum of flag bits, bit 0 first. -/
def flagBits : List Bool → Nat
  | [] => 0
  | b :: bs => b.toNat + 2 * flagBits bs

/-- A count that stays at its limit instead of passing it. -/
def satAdd (limit n k : Nat) : Nat := min (n + k) limit

/-- One more on a 16-bit saturating counter. -/
def bump16 (n : Nat) : Nat := satAdd 65535 n 1

/-- A value limited to lo..hi (lo ≤ hi). -/
def limitTo (lo hi v : Int) : Int := max lo (min hi v)

/-- A signed 16-bit value, saturating. -/
def sat16 (v : Int) : Int := limitTo (-32768) 32767 v

end Sys2Proof.Machine
end

