-- ==== Sys2Proof/Machine/Arith.lean ====
section
/-! DEFINITION. Position arithmetic (chapter 2): octagonal distance, mapping to output units,
smoothing, and the pressure curve. None of it holds state (R40). -/

namespace Sys2Proof.Machine

/-- The octagonal distance of two differences (R25). -/
def octDist (dx dy : Int) : Nat := max dx.natAbs dy.natAbs + min dx.natAbs dy.natAbs / 2

/-- The octagonal distance of two points. -/
def ptDist (p q : Pt) : Nat := octDist (p.x - q.x) (p.y - q.y)

/-- Sum and difference of points, per axis. -/
def ptAdd (p q : Pt) : Pt := ⟨p.x + q.x, p.y + q.y⟩

/-- The difference of two points, per axis. -/
def ptSub (p q : Pt) : Pt := ⟨p.x - q.x, p.y - q.y⟩

/-- The unclamped value of one axis (R27): the product shifted right by 16 bits, rounding toward
minus infinity (`/` on `Int` with a positive divisor). -/
def mapRaw (input : Int) (origin gain : Nat) : Int := (input - origin) * gain / 65536

/-- One axis of the mapping (R27 to R29): the limited and, if set, flipped value, and whether the
limit changed it. -/
def mapAxis (input : Int) (origin gain outMax : Nat) (flip : Bool) : Int × Bool :=
  let m := mapRaw input origin gain
  let l := limitTo 0 outMax m
  (if flip then outMax - l else l, decide (l ≠ m))

/-- The mapping of a point (R27 to R30), with the clamped indication (R28). -/
def mapPoint (p : MapParams) (input : Pt) : Pt × Bool :=
  let mx := mapAxis input.x p.originX p.gainX p.outMaxX p.flipX
  let my := mapAxis input.y p.originY p.gainY p.outMaxY p.flipY
  (if p.swap then ⟨my.1, mx.1⟩ else ⟨mx.1, my.1⟩, mx.2 || my.2)

/-- Upper end of the output x range (R30). -/
def outRangeX (p : MapParams) : Nat := if p.swap then p.outMaxY else p.outMaxX

/-- Upper end of the output y range (R30). -/
def outRangeY (p : MapParams) : Nat := if p.swap then p.outMaxX else p.outMaxY

/-- A point limited to an output range, and whether the limit changed it (R37, R148, R179). -/
def limitPt (rangeX rangeY : Nat) (p : Pt) : Pt × Bool :=
  let q : Pt := ⟨limitTo 0 rangeX p.x, limitTo 0 rangeY p.y⟩
  (q, decide (q ≠ p))

/-- One axis of the filter (R36): held within the deadband, else moved by the truncated
fraction filter_alpha / 256 of the way. -/
def smoothAxis (alpha deadband : Nat) (raw prev : Int) : Int :=
  if (raw - prev).natAbs ≤ deadband then prev else prev + Int.tdiv ((raw - prev) * alpha) 256

/-- The filter on both output axes. -/
def smoothPt (alpha deadband : Nat) (raw prev : Pt) : Pt :=
  ⟨smoothAxis alpha deadband raw.x prev.x, smoothAxis alpha deadband raw.y prev.y⟩

/-- The raw velocity of a contact that takes a blob on a frame without gap marker (R32). -/
def velocityTo (centroid previous : Pt) : Pt :=
  ⟨limitTo (-4095) 4095 (centroid.x - previous.x), limitTo (-4095) 4095 (centroid.y - previous.y)⟩

/-- One segment of the pressure curve (R39). -/
def curveSegment (x0 y0 x1 y1 p : Nat) : Nat := y0 + (p - x0) * (y1 - y0) / (x1 - x0)

/-- The pressure curve (R38, R39). -/
def pressureCurve (q : PenParams) (p : Nat) : Nat :=
  if p < q.knotX1 then curveSegment 0 q.knotY0 q.knotX1 q.knotY1 p
  else if p < q.knotX2 then curveSegment q.knotX1 q.knotY1 q.knotX2 q.knotY2 p
  else if p < q.knotX3 then curveSegment q.knotX2 q.knotY2 q.knotX3 q.knotY3 p
  else curveSegment q.knotX3 q.knotY3 4095 q.knotY4 p

/-- Whether the Clock has reached a deadline (R188). The comparison is modulo 2^48: a deadline up
to half the Clock's range behind the Clock has been reached (log 4, DEDUCED). -/
def reached (now deadline : Time) : Bool := decide ((now - deadline).toNat < 2 ^ 47)

/-- A Clock value some microseconds later, modulo 2^48 (R188). -/
def later (t : Time) (micros : Nat) : Time := t + BitVec.ofNat 48 micros

end Sys2Proof.Machine
end

