-- ==== Sys2Proof/Machine/Extract.lean ====
section
/-! DEFINITION. The Blob Extractor (sections 1.5 and 1.6): lit cells, components, the area test,
the blob limit, and the blob record. -/

namespace Sys2Proof.Machine

/-- The lit cells of a frame in raster order (R15): a negative value counts as 0, and a cell is
lit at or above the threshold. The number counts the cells in row-major order. -/
def litCells (cols threshold : Nat) : Nat → List Int → List LitCell
  | _, [] => []
  | k, v :: vs =>
    let rest := litCells cols threshold (k + 1) vs
    if threshold ≤ v.toNat then { col := k % cols, row := k / cols, value := v.toNat } :: rest else rest

/-- Two cells that share a side (R16). The grid does not wrap. -/
def sharesSide (a b : LitCell) : Bool :=
  (a.row == b.row && (a.col + 1 == b.col || b.col + 1 == a.col)) ||
  (a.col == b.col && (a.row + 1 == b.row || b.row + 1 == a.row))

/-- Adds a cell to a list of components: every component it shares a side with becomes one
component with it. -/
def addToComponents (comps : List (List LitCell)) (c : LitCell) : List (List LitCell) :=
  let near := comps.filter fun k => k.any (sharesSide c)
  let far := comps.filter fun k => !k.any (sharesSide c)
  far ++ [near.flatten ++ [c]]

/-- The 4-connected components of the lit cells (R16). -/
def components (cells : List LitCell) : List (List LitCell) := cells.foldl addToComponents []

/-- The position of a cell in row-major order. -/
def rasterOf (cols : Nat) (c : LitCell) : Nat := c.row * cols + c.col

/-- The least value of a list, 0 for an empty one. -/
def leastOf (l : List Nat) : Nat := l.min?.getD 0

/-- The greatest value of a list, 0 for an empty one. -/
def greatestOf (l : List Nat) : Nat := l.max?.getD 0

/-- A cell's weight (R20). -/
def weightOf (squared : Bool) (c : LitCell) : Nat := if squared then c.value * c.value else c.value

/-- Flatness (R22): floor(peak × 256 / signal), raised to 1 when that floor is 0. -/
def flatness (peak signal : Nat) : Nat := max 1 (peak * 256 / signal)

/-- The blob record of a component (R19 to R22), with index 0 until R18 numbers it. -/
def blobOf (cols rows : Nat) (squared : Bool) (k : List LitCell) : Blob :=
  let sumW := (k.map (weightOf squared)).sum
  let sumX := (k.map fun c => weightOf squared c * c.col).sum
  let sumY := (k.map fun c => weightOf squared c * c.row).sum
  let signal := (k.map (·.value)).sum
  let peak := greatestOf (k.map (·.value))
  let minCol := leastOf (k.map (·.col))
  let maxCol := greatestOf (k.map (·.col))
  let minRow := leastOf (k.map (·.row))
  let maxRow := greatestOf (k.map (·.row))
  { index := 0
    raster := leastOf (k.map (rasterOf cols))
    area := k.length
    signal, peak, minCol, maxCol, minRow, maxRow
    edge := minCol == 0 || minRow == 0 || maxCol == cols - 1 || maxRow == rows - 1
    sumW, sumX, sumY
    centroid := ⟨((256 * sumX / sumW : Nat) : Int), ((256 * sumY / sumW : Nat) : Int)⟩
    flat := flatness peak signal }


/-- The blobs kept under the blob limit, in raster order (R18). -/
def keepStrongest (limit : Nat) (l : List Blob) : List Blob :=
  (((l.insertionSort fun a b => b.signal < a.signal ∨ (a.signal = b.signal ∧ a.raster ≤ b.raster)).take
    limit).insertionSort fun a b => a.raster ≤ b.raster)

/-- Numbers blobs from k on (R18). -/
def numberBlobs : Nat → List Blob → List Blob
  | _, [] => []
  | k, b :: bs => { b with index := k } :: numberBlobs (k + 1) bs

/-- The candidates of a frame (R15 to R17, R19). -/
def candidates (cols rows : Nat) (p : SurfaceParams) (cells : List Int) : List Blob :=
  ((components (litCells cols p.touchThreshold 0 cells)).filter fun k => decide (p.minArea ≤ k.length)).map
    (blobOf cols rows p.squared)

/-- Blob extraction of a frame (R15 to R22): the kept blobs in index order, and how many
candidates the blob limit dropped. -/
def extract (cols rows limit : Nat) (p : SurfaceParams) (cells : List Int) : List Blob × Nat :=
  let cand := candidates cols rows p cells
  (numberBlobs 0 (keepStrongest limit cand), cand.length - limit)

/-- Blob extraction on a surface. -/
def extractOn (sf : Surface) (p : SurfaceParams) (cells : List Int) : List Blob × Nat :=
  extract (Config.cols sf) (Config.rows sf) (Config.blobLimit sf) p cells

end Sys2Proof.Machine
end

