-- ==== Sys2Proof/Machine/Track.lean ====
section
/-! DEFINITION. The Contact Tracker (chapter 3): creation order, matching, taking a blob,
coasting and ending, creation, contact ids, the down position, and the ending of a whole table. -/

namespace Sys2Proof.Machine

/-! ### Creation order (R46) -/

/-- Contacts in creation order, oldest first, when the creation counter stands at `c` (R46): the
larger c − n modulo 2^32 is the older, and at equal values the lower slot. -/
def byCreation (c : BitVec 32) (l : List Contact) : List Contact :=
  l.insertionSort fun a b => (c - b.number).toNat < (c - a.number).toNat ∨
    ((c - a.number).toNat = (c - b.number).toNat ∧ a.slot ≤ b.slot)

/-! ### Matching (R47 to R50) -/

/-- The prediction of a contact (R34). -/
def prediction (k : Contact) : Pt := ptAdd k.centroid k.velocity

/-- The blob nearest a prediction within the gate; at the least distance the earlier one, which
has the lower index (R48). -/
def nearestBlob (gate : Nat) (p : Pt) : List Blob → Option Blob
  | [] => none
  | b :: bs =>
    let d := ptDist p b.centroid
    match nearestBlob gate p bs with
    | none => if d ≤ gate then some b else none
    | some r => if d ≤ ptDist p r.centroid then some b else some r

/-- A contact takes a blob (R49, R32, R35 to R37, R42). `gap` is the frame's gap marker. -/
def takeBlob (p : SurfaceParams) (gap : Bool) (b : Blob) (k : Contact) : Contact :=
  let m := mapPoint p.mapping b.centroid
  let held := limitPt (outRangeX p.mapping) (outRangeY p.mapping) k.filtered
  { k with
    state := .held
    missed := 0
    prevArea := some k.area
    area := b.area
    peak := b.peak
    signal := b.signal
    edge := b.edge
    velocity := if gap then ⟨0, 0⟩ else velocityTo b.centroid k.centroid
    centroid := b.centroid
    mapped := m.1
    filtered := smoothPt p.filterAlpha p.deadband m.1 held.1
    age := satAdd 255 k.age 1
    flags := { k.flags with clamped := k.flags.clamped || m.2 || held.2 } }

/-- A contact claims no blob (R50). DESIGN CHOICE (log 39): its positions and CLAMPED stay as they are,
also where a LOAD_BANK has shrunk the output range since, because R35, R42 and R50 leave a contact
that takes no blob unmapped and unchecked, while R37's last sentence speaks of every position
published. -/
def missBlob (coastFrames : Nat) (k : Contact) : Contact :=
  if k.missed < coastFrames then { k with state := .coasting, missed := k.missed + 1 }
  else { k with state := .ended, flags := { k.flags with left := true } }

/-- Matching of the contacts, given in creation order, with the unclaimed blobs in index order
(R48): the contacts as matching leaves them, and the blobs left. An ENDED contact takes no part. -/
def matchContacts (p : SurfaceParams) (gap : Bool) : List Contact → List Blob → List Contact × List Blob
  | [], bs => ([], bs)
  | k :: ks, bs =>
    if k.state = .ended then
      let r := matchContacts p gap ks bs
      (k :: r.1, r.2)
    else
      match nearestBlob p.gate (prediction k) bs with
      | some b =>
        let r := matchContacts p gap ks (bs.filter fun x => x.index != b.index)
        (takeBlob p gap b k :: r.1, r.2)
      | none =>
        let r := matchContacts p gap ks bs
        (missBlob p.coastFrames k :: r.1, r.2)

/-! ### Creation (R51 to R54, R72) -/

/-- A zone holds a point: both corners are inclusive (R72). -/
def inZone (z : Zone) (p : Pt) : Bool :=
  decide ((z.x0 : Int) ≤ p.x ∧ p.x ≤ z.x1 ∧ (z.y0 : Int) ≤ p.y ∧ p.y ≤ z.y1)

/-- The home zone of a point (R72): the lowest index below the zone count whose zone is present
and holds the point, with its flags; DEFAULT, without flags, when there is none. -/
def homeZone (t : ZoneTable) (p : Pt) : Option Nat × ZoneFlags :=
  match ((t.places.take t.count).zipIdx.filterMap fun q => q.1.map fun z => (z, q.2)).find?
      fun q => inZone q.1 p with
  | some (z, i) => (some i, z.flags)
  | none => (none, noZoneFlags)

/-- The id after an id, 63 being followed by 1 (R53). -/
def nextId (i : Nat) : Nat := i % 63 + 1

/-- The ids in the order the allocator tries them from the pointer on (R53). -/
def idsFrom (pointer : Nat) : List Nat := (List.range 63).map fun k => (pointer - 1 + k) % 63 + 1

/-- The id allocated to a new contact (R53, R54): the first tried that is not held. The default
is never used: at most 36 ids are held (R54; log 8). -/
def allocateId (pointer : Nat) (held : List Nat) : Nat :=
  ((idsFrom pointer).find? fun i => !held.contains i).getD pointer

/-- The lowest free slot of a table (R51), if there is one. -/
def freeSlot (slots : Nat) (table : List Contact) : Option Nat :=
  (List.range slots).find? fun i => !(table.any fun k => k.slot == i)

/-- A new contact (R51). -/
def newContact (p : SurfaceParams) (zones : ZoneTable) (time : Time) (slot id : Nat) (number : BitVec 32)
    (b : Blob) : Contact :=
  let m := mapPoint p.mapping b.centroid
  let z := homeZone zones m.1
  { slot, id, number
    state := .fresh
    cls := .undecided
    reason := .none
    zone := z.1
    zoneFlags := z.2
    age := 1
    sinceConfirm := none
    missed := 0
    centroid := b.centroid
    velocity := ⟨0, 0⟩
    mapped := m.1
    filtered := m.1
    down := none
    maxDisp := none
    area := b.area
    peak := b.peak
    signal := b.signal
    edge := b.edge
    prevArea := none
    entered := time
    flags := { noContactFlags with entered := true, clamped := m.2 }
    retractedMark := false }

/-- What creation changes: the table, the id pointer, the creation counter and how many blobs
found no slot. -/
structure Creation where
  table   : List Contact
  pointer : Nat
  created : BitVec 32
  refused : Nat
  deriving DecidableEq, Repr

/-- Creation from one blob (R51), or its discard (R52). `otherIds` are the ids held by the closing
list and the pending frame (R54). -/
def createOne (sf : Surface) (p : SurfaceParams) (zones : ZoneTable) (time : Time) (otherIds : List Nat)
    (c : Creation) (b : Blob) : Creation :=
  match freeSlot (Config.tableSlots sf) c.table with
  | none => { c with refused := c.refused + 1 }
  | some slot =>
    let id := allocateId c.pointer (c.table.map (·.id) ++ otherIds)
    { c with
      table := c.table ++ [newContact p zones time slot id c.created b]
      pointer := nextId id
      created := c.created + 1 }

/-- Tracking of a frame up to classification (R47, stages 1 to 4). -/
def trackTable (sf : Surface) (p : SurfaceParams) (zones : ZoneTable) (frame : Frame) (blobs : List Blob)
    (otherIds : List Nat) (u : SurfaceUnit) : Creation :=
  let still := if frame.gap then u.table.map fun k => { k with velocity := ⟨0, 0⟩ } else u.table
  let m := matchContacts p frame.gap (byCreation u.created still) blobs
  m.2.foldl (createOne sf p zones frame.time otherIds)
    { table := m.1, pointer := u.idPointer, created := u.created, refused := 0 }

/-! ### Down position and displacement (R55) -/

/-- A confirmed contact that took a blob in this frame brings max displacement up to date. -/
def updateDisplacement (k : Contact) : Contact :=
  match k.sinceConfirm, k.down with
  | some _, some d =>
    if k.state = .held ∨ k.state = .fresh then
      { k with maxDisp := some (max (k.maxDisp.getD 0) (ptDist d k.filtered)) }
    else k
  | _, _ => k

/-! ### Handover entries (R57) and release (R58) -/

/-- The entry a contact hands over. -/
def entryOf (k : Contact) : Entry :=
  { id := k.id
    number := k.number
    ended := k.state == .ended
    cls := k.cls
    reason := k.reason
    zone := k.zone
    pos := k.filtered
    area := k.area
    peak := k.peak
    confirmed := k.sinceConfirm.isSome
    flags := k.flags }

/-- A contact of the closing list limited to the snapshot's output range (R148). -/
def limitClosing (p : MapParams) (k : Contact) : Contact :=
  let l := limitPt (outRangeX p) (outRangeY p) k.filtered
  { k with filtered := l.1, flags := { k.flags with clamped := k.flags.clamped || l.2 } }

/-- Release after a handover: ENDED entries leave, the flags of the others are cleared, the
closing list is emptied (R56, R58). -/
def releaseEnded (u : SurfaceUnit) : SurfaceUnit :=
  { u with
    table := (u.table.filter fun k => k.state != .ended).map fun k => { k with flags := noContactFlags }
    closing := [] }

/-! ### Ending a whole table (R59, R87) -/

/-- Whether a contact is retracted at a whole-table ending (R87, R69). -/
def endingRetracts (k : Contact) : Bool := k.cls == .finger && !k.retractedMark

/-- A contact as it goes into the closing list: a FINGER retracted, and every contact ENDED with
LEFT. -/
def closeContact (k : Contact) : Contact :=
  { k with
    state := .ended
    retractedMark := k.retractedMark || endingRetracts k
    flags := { k.flags with left := true, retracted := k.flags.retracted || endingRetracts k } }

/-- The whole table moves into the closing list in creation order; each retraction is counted
(R59, R87, R91). -/
def endTable (u : SurfaceUnit) : SurfaceUnit :=
  { u with
    closing := u.closing ++ (byCreation u.created u.table).map closeContact
    table := []
    counters := { u.counters with
      retractions := satAdd 65535 u.counters.retractions (u.table.filter endingRetracts).length } }

end Sys2Proof.Machine
end

