-- ==== Sys2Proof/Machine/Classify.lean ====
section
/-! DEFINITION. The Contact Classifier (chapter 4): the tests, the decision and retraction
windows, the guard region, and the classification stage of a frame. -/

namespace Sys2Proof.Machine

/-- The surface section of a bank (R13). -/
def sectionOf (sf : Surface) (b : Bank) : SurfaceParams :=
  match sf with
  | .pad => b.pad
  | .screen => b.screen

/-- The result of the first test met, in the order listed. -/
def firstMet {α : Type} (tests : List (Bool × α)) : Option α :=
  (tests.find? fun t => t.1).map fun t => t.2

/-! ### The tests (R75 to R80) -/

/-- The size test (R75). -/
def sizeTest (p : SurfaceParams) (k : Contact) : Bool := decide (p.palmArea ≤ k.area)

/-- The neighbour test against the other contacts of the table (R75). -/
def neighbourTest (p : SurfaceParams) (others : List Contact) (k : Contact) : Bool :=
  others.any fun o => o.cls == .palm && o.state != .ended && decide (ptDist o.mapped k.mapped ≤ p.palmRadius)

/-- The typing test (R76), made on the pad. -/
def typingTest (sf : Surface) (v : FrameView) (k : Contact) : Bool :=
  sf == .pad && v.typing && !k.zoneFlags.typingExempt

/-- Whether a screen position lies in the guard region (R77). -/
def inGuardRegion (q : ScreenParams) (v : FrameView) (p : Pt) : Bool :=
  match v.penPos with
  | none => false
  | some pen =>
    decide (pen.y - q.guardMarginY ≤ p.y) &&
      (match v.hand with
       | .right => decide (pen.x - q.guardMarginX ≤ p.x)
       | .left => decide (p.x ≤ pen.x + q.guardMarginX))

/-- The pen guard test (R78), made on the screen. -/
def penGuardTest (sf : Surface) (q : ScreenParams) (v : FrameView) (k : Contact) : Bool :=
  sf == .screen && v.guardOn && !q.suspendAll && inGuardRegion q v k.mapped

/-- The test of a newly seen activation (R84, test 4), made on the screen under either pen_mode. -/
def newActivationTest (sf : Surface) (q : ScreenParams) (v : FrameView) (k : Contact) : Bool :=
  sf == .screen && v.newlySeen && inGuardRegion q v k.mapped

/-- The edge-growth test (R80). -/
def edgeGrowTest (p : SurfaceParams) (k : Contact) : Bool :=
  match k.prevArea with
  | none => false
  | some a => k.edge && decide (a + p.growLimit ≤ k.area)

/-- The flat test (R81). -/
def flatTest (p : SurfaceParams) (k : Contact) : Bool :=
  decide (flatness k.peak k.signal < p.flatLimit) && decide (p.flatMinArea ≤ k.area)

/-- The tests at creation, in order (R74). -/
def creationTests (sf : Surface) (b : Bank) (v : FrameView) (others : List Contact) (k : Contact) :
    Option (Class × Reason) :=
  let p := sectionOf sf b
  firstMet
    [ (!v.enable, (.ignored, .suspended)),
      (k.zoneFlags.ignoreZone, (.ignored, .zone)),
      (sizeTest p k, (.palm, .size)),
      (neighbourTest p others k, (.palm, .neighbour)),
      (typingTest sf v k, (.palm, .typing)),
      (penGuardTest sf b.screenOnly v k, (.palm, .penGuard)) ]

/-- The tests repeated on a held UNDECIDED contact, in order (R79). -/
def repeatedTests (sf : Surface) (b : Bank) (v : FrameView) (others : List Contact) (k : Contact) :
    Option (Class × Reason) :=
  let p := sectionOf sf b
  firstMet
    [ (!v.enable, (.ignored, .suspended)),
      (sizeTest p k, (.palm, .size)),
      (neighbourTest p others k, (.palm, .neighbour)),
      (penGuardTest sf b.screenOnly v k, (.palm, .penGuard)),
      (edgeGrowTest p k, (.palm, .edgeGrow)) ]

/-- The tests of the ending decision, in order (R82). -/
def endingTests (sf : Surface) (b : Bank) (v : FrameView) (others : List Contact) (k : Contact) :
    Option (Class × Reason) :=
  let p := sectionOf sf b
  firstMet
    [ (!v.enable, (.ignored, .suspended)),
      (sizeTest p k, (.palm, .size)),
      (neighbourTest p others k, (.palm, .neighbour)),
      (flatTest p k, (.palm, .flat)) ]

/-- The retraction tests, in order (R84). -/
def retractionTests (sf : Surface) (b : Bank) (v : FrameView) (others : List Contact) (k : Contact) :
    Option Reason :=
  let p := sectionOf sf b
  firstMet
    [ (sizeTest p k, .size),
      (edgeGrowTest p k, .edgeGrow),
      (neighbourTest p others k, .neighbour),
      (newActivationTest sf b.screenOnly v k, .penGuard) ]

/-! ### Changes of class (R68) -/

/-- What the classification stage did to a contact. -/
inductive Verdict where
  | nothing
  | confirmed
  | rejected
  | retracted
  deriving DecidableEq, Repr

/-- Confirmation as FINGER (R81), with the down position and displacement of R55. -/
def confirmContact (k : Contact) : Contact :=
  { k with
    cls := .finger
    reason := .none
    sinceConfirm := some 0
    down := some k.filtered
    maxDisp := some 0
    flags := { k.flags with confirmed := true } }

/-- An UNDECIDED contact decided against. -/
def rejectContact (r : Class × Reason) (k : Contact) : Contact := { k with cls := r.1, reason := r.2 }

/-- A FINGER contact retracted (R69, R85, R86). -/
def retractContact (cls : Class) (reason : Reason) (k : Contact) : Contact :=
  { k with cls := cls, reason := reason, retractedMark := true, flags := { k.flags with retracted := true } }

/-- The decision window (R81). -/
def decisionWindow (p : SurfaceParams) (k : Contact) : Nat :=
  if k.zoneFlags.palmEdge then 2 * p.decideFrames else p.decideFrames

/-- The decision at the window (R81). -/
def decideContact (p : SurfaceParams) (k : Contact) : Contact × Verdict :=
  if decisionWindow p k ≤ k.age then
    if flatTest p k then (rejectContact (.palm, .flat) k, .rejected) else (confirmContact k, .confirmed)
  else (k, .nothing)

/-- An UNDECIDED contact after its tests: rejected by the first met, or left to what follows. -/
def afterTests (met : Option (Class × Reason)) (k : Contact) (otherwise : Contact × Verdict) : Contact × Verdict :=
  match met with
  | some r => (rejectContact r k, .rejected)
  | none => otherwise

/-- since_confirm advances, saturating at 255 (R83). -/
def advanceConfirm (k : Contact) : Contact :=
  { k with sinceConfirm := k.sinceConfirm.map fun n => satAdd 255 n 1 }

/-- A held FINGER contact within or past its retract window (R84). -/
def heldFinger (sf : Surface) (b : Bank) (v : FrameView) (others : List Contact) (k : Contact) : Contact × Verdict :=
  let k' := advanceConfirm k
  if k'.sinceConfirm.getD 0 ≤ (sectionOf sf b).retractFrames ∧ k'.retractedMark = false then
    match retractionTests sf b v others k' with
    | some r => (retractContact .palm r k', .retracted)
    | none => (k', .nothing)
  else (k', .nothing)

/-- The classification stage's work on one contact (Table 4-3). -/
def classifyContact (sf : Surface) (b : Bank) (v : FrameView) (others : List Contact) (k : Contact) :
    Contact × Verdict :=
  match k.cls, k.state with
  | .undecided, .fresh => afterTests (creationTests sf b v others k) k (decideContact (sectionOf sf b) k)
  | .undecided, .held => afterTests (repeatedTests sf b v others k) k (decideContact (sectionOf sf b) k)
  | .undecided, .coasting => (k, .nothing)
  | .undecided, .ended => afterTests (endingTests sf b v others k) k (confirmContact k, .confirmed)
  | .finger, .held => heldFinger sf b v others k
  | .finger, .coasting => (advanceConfirm k, .nothing)
  | .finger, .fresh => (k, .nothing)
  | .finger, .ended => (k, .nothing)
  | .palm, _ => (k, .nothing)
  | .ignored, _ => (k, .nothing)

/-- The contacts one at a time in the order given (R71): each sees those before it as this stage
has left them and those after it as they stood. -/
def classifyFrom (sf : Surface) (b : Bank) (v : FrameView) :
    List Contact → List Contact → List (Contact × Verdict)
  | _, [] => []
  | done, k :: ks =>
    let r := classifyContact sf b v (done ++ ks) k
    r :: classifyFrom sf b v (done ++ [r.1]) ks

/-- Step 1 of the stage (R86): with the frame's finger enable off, every FINGER contact not yet
retracted becomes IGNORED(SUSPENDED). -/
def suspendContact (v : FrameView) (k : Contact) : Contact × Verdict :=
  if !v.enable && endingRetracts k then (retractContact .ignored .suspended k, .retracted) else (k, .nothing)

/-- The outcome of the classification stage: the table, and the ids confirmed and retracted in
creation order, with the number of rejections. -/
structure Classification where
  table     : List Contact
  confirmed : List Nat
  retracted : List Nat
  rejected  : Nat
  deriving DecidableEq, Repr

/-- The ids of the contacts a list of verdicts names. -/
def idsWith (w : Verdict) (l : List (Contact × Verdict)) : List Nat :=
  (l.filter fun q => q.2 == w).map fun q => q.1.id

/-- The classification stage of a tracked frame (R71) on a table in creation order. -/
def classifyTable (sf : Surface) (b : Bank) (v : FrameView) (table : List Contact) : Classification :=
  let first := table.map (suspendContact v)
  let second := classifyFrom sf b v [] (first.map (·.1))
  { table := second.map (·.1)
    confirmed := idsWith .confirmed second
    retracted := idsWith .retracted first ++ idsWith .retracted second
    rejected := (idsWith .rejected second).length }

end Sys2Proof.Machine
end

