-- ==== Sys2Proof/Machine/Gestures.lean ====
section
/-! DEFINITION. The Gesture Engine (chapter 6): the frame work of R113, the endings at a frame
start, and the two expiries. The engine works on its own state and generates events. -/

namespace Sys2Proof.Machine

/-! ### Priorities, codes and events -/

/-- A gesture's priority (Table 6-2). -/
def priority : Gesture → Nat
  | .drag => 2
  | .scroll => 3
  | .pinch => 4
  | .swipe3 => 5
  | .swipe4 => 6

/-- The type byte of a gesture event (section 8.4); TAP is 1. -/
def gestureCode : Gesture → Nat
  | .drag => 2
  | .scroll => 3
  | .pinch => 4
  | .swipe3 => 5
  | .swipe4 => 6

/-- The outcome byte of a GESTURE_END (section 8.4). -/
def outcomeCode : EndOutcome → Nat
  | .completed => 1
  | .preempted => 2
  | .voided => 3
  | .withdrawn => 4
  | .postureCancelled => 5
  | .cleared => 6

/-- GESTURE_BEGIN (Table 6-6); motion and span delta are limited at generation (R140). -/
def beginEvent (v : Service) (motion : Pt) (span : Int) (t : Time) : Event :=
  { kind := .gestureBegin, type := gestureCode v.gesture, fingers := v.members.length, outcome := 0
    inst := v.inst, steps := 0, dx := sat16 motion.x, dy := sat16 motion.y, span := sat16 span, time := t }

/-- GESTURE_STEP (Table 6-6, R125). -/
def stepEvent (v : Service) (motion : Pt) (span : Int) (t : Time) : Event :=
  { kind := .gestureStep, type := gestureCode v.gesture, fingers := v.members.length, outcome := 0
    inst := v.inst, steps := 1, dx := sat16 motion.x, dy := sat16 motion.y, span := sat16 span, time := t }

/-- GESTURE_END (Table 6-6). -/
def endEvent (v : Service) (o : EndOutcome) (t : Time) : Event :=
  { kind := .gestureEnd, type := gestureCode v.gesture, fingers := v.members.length, outcome := outcomeCode o
    inst := v.inst, steps := v.steps, dx := 0, dy := 0, span := 0, time := t }

/-- TAP (Table 6-6): the tap position stands in dx and dy, and the timestamp is the lift time. -/
def tapEvent (fingers : Nat) (pos : Pt) (lift : Time) : Event :=
  { kind := .tap, type := 1, fingers := fingers, outcome := 0, inst := 0, steps := 0
    dx := pos.x, dy := pos.y, span := 0, time := lift }

/-- The instance number after one (R123): 255 is followed by 1. -/
def nextInstance (n : Nat) : Nat := if n = 255 then 1 else n + 1

/-! ### The frame work's view -/

/-- What a tracked pad frame brings to the engine (R111): the table in creation order as the
classification stage leaves it, the ids confirmed and retracted, the pad-only parameters, the
frame view's typing guard and the frame's timestamp. -/
structure GestureInput where
  contacts  : List Contact
  confirmed : List Nat
  retracted : List Nat
  params    : PadParams
  typing    : Bool
  time      : Time
  deriving DecidableEq, Repr

/-- The engine during its frame work: its state, the events generated so far, and whether a
gesture was granted or joined in this frame. -/
structure GestureWork where
  engine  : GestureEngine
  events  : List Event
  granted : Bool
  deriving DecidableEq, Repr

/-- The contact of an id. -/
def contactOf (f : GestureInput) (id : Nat) : Option Contact := f.contacts.find? fun k => k.id == id

/-- The finger set (R112). -/
def fingerSet (f : GestureInput) : List Contact := f.contacts.filter fun k => k.cls == .finger && k.state != .ended

/-- The touching set (R112). -/
def touchingSet (f : GestureInput) : List Contact := f.contacts.filter fun k => k.cls == .finger

/-- A member's filtered position in this frame; the last position if it has none. -/
def memberPos (f : GestureInput) (m : Nat × Pt) : Pt := ((contactOf f m.1).map (·.filtered)).getD m.2

/-- Whether a contact of an id became ENDED in this frame. -/
def hasEnded (f : GestureInput) (id : Nat) : Bool :=
  match contactOf f id with
  | some k => k.state == .ended
  | none => false

/-- Two lists of ids hold the same ids. -/
def sameIds (a b : List Nat) : Bool := a.all (b.contains ·) && b.all (a.contains ·)

/-- Members of a gesture as the contacts' ids and filtered positions. -/
def membersOf (l : List Contact) : List (Nat × Pt) := l.map fun k => (k.id, k.filtered)

/-- The distance between the first two positions of a list; 0 for fewer than two. -/
def spanOf : List Pt → Nat
  | p :: q :: _ => ptDist p q
  | _ => 0

/-- Truncated mean of points (R119, R125): the sum per axis over n, rounding toward zero. -/
def meanOf (l : List Pt) : Pt :=
  ⟨Int.tdiv (l.map (·.x)).sum l.length, Int.tdiv (l.map (·.y)).sum l.length⟩

/-! ### Stage 1: ends (R127, R128, R138) -/

/-- A DRAG whose member ended goes into drag lock, or ends COMPLETED with drag_lock_us 0; every
other gesture ends COMPLETED (R127, R138). -/
def endMember (f : GestureInput) (w : GestureWork) (v : Service) : GestureWork :=
  if v.gesture = .drag ∧ f.params.dragLock ≠ 0 then
    { w with engine := { w.engine with
        service := some { v with members := [], lock := some (later f.time f.params.dragLock) } } }
  else
    { w with
      engine := { w.engine with service := none }
      events := w.events ++ [endEvent v .completed f.time] }

/-- Stage 1. -/
def stageEnds (f : GestureInput) (w : GestureWork) : GestureWork :=
  match w.engine.service with
  | none => w
  | some v =>
    if v.members.any fun m => f.retracted.contains m.1 then
      { w with
        engine := { w.engine with service := none }
        events := w.events ++ [endEvent v .voided f.time] }
    else if v.members.any fun m => hasEnded f m.1 then endMember f w v
    else w

/-! ### Stage 2: confirmations (R115, R136, R139) -/

/-- A DRAG in drag lock (R138): it has no members and a deadline. -/
def inDragLock (v : Service) : Bool := v.gesture == .drag && v.members.isEmpty && v.lock.isSome

/-- The oldest confirmed contact joins a DRAG in drag lock (R139); one that is ENDED in the same
frame is taken by R138 at once. -/
def joinDrag (f : GestureInput) (k : Contact) (w : GestureWork) : GestureWork :=
  match w.engine.service with
  | some v =>
    if inDragLock v then
      let joined := { v with members := [(k.id, k.filtered)], lock := none }
      let w' := { w with engine := { w.engine with service := some joined }, granted := true }
      if k.state = .ended then endMember f w' joined else w'
    else w
  | none => w

/-- The touch sequence the first finger opens (R115). -/
def openSequence (k : Contact) : Sequence :=
  { start := k.entered
    first := k.id
    tapPos := k.down.getD k.filtered
    firstZone := k.zoneFlags
    maxFingers := 1
    maxDisp := 0
    granted := false
    retracted := false }

/-- The drag test of the first finger against the pending tap (R136). -/
def dragTest (f : GestureInput) (k : Contact) (tap : PendingTap) (w : GestureWork) : GestureWork :=
  if ptDist (k.down.getD k.filtered) tap.pos ≤ f.params.dragRadius then
    let n := nextInstance w.engine.counter
    let v : Service := { gesture := .drag, inst := n, members := [(k.id, k.filtered)], lastSpan := 0
                         steps := 0, lock := none }
    { engine := { w.engine with tap := none, service := some v, counter := n }
      events := w.events ++ [beginEvent v ⟨0, 0⟩ 0 f.time]
      granted := true }
  else
    { w with
      engine := { w.engine with tap := none }
      events := w.events ++ [tapEvent tap.fingers tap.pos tap.lift] }

/-- The first finger opens a sequence when none is open, and meets the drag test when a tap is
pending and the finger is in the finger set (R115, R136). -/
def firstFinger (f : GestureInput) (k : Contact) (w : GestureWork) : GestureWork :=
  match w.engine.sequence with
  | some _ => w
  | none =>
    let w' := { w with engine := { w.engine with sequence := some (openSequence k) } }
    match w.engine.tap with
    | none => w'
    | some tap => if k.state = .ended then w' else dragTest f k tap w'

/-- Stage 2: the oldest contact of the confirmation list. -/
def stageConfirmations (f : GestureInput) (w : GestureWork) : GestureWork :=
  match f.confirmed.head?.bind (contactOf f) with
  | none => w
  | some k => firstFinger f k (joinDrag f k w)

/-! ### Stage 3: the reference set (R118) -/

/-- The reference set taken from the finger set. -/
def takeReference (l : List Contact) : Reference :=
  { members := membersOf l
    span0 := if l.length = 2 then some (spanOf (l.map (·.filtered))) else none }

/-- Stage 3. -/
def stageReference (f : GestureInput) (w : GestureWork) : GestureWork :=
  let fingers := fingerSet f
  if sameIds (fingers.map (·.id)) (w.engine.reference.members.map (·.1)) then w
  else { w with engine := { w.engine with reference := takeReference fingers } }

/-! ### Stage 4: claims and arbitration (R119 to R124) -/

/-- A claim (R120): the gesture, its members, its motion, and for a PINCH the span change. -/
structure Claim where
  gesture : Gesture
  members : List (Nat × Pt)
  motion  : Pt
  span    : Int
  deriving DecidableEq, Repr

/-- Mean displacement of the fingers from the reference (R119). -/
def meanDisplacement (f : GestureInput) (r : Reference) : Pt :=
  meanOf (r.members.map fun m => ptSub (memberPos f m) m.2)

/-- The frame's claim, if any (Table 6-3). -/
def claimOf (f : GestureInput) (r : Reference) : Option Claim :=
  let fingers := fingerSet f
  let mean := meanDisplacement f r
  let common := octDist mean.x mean.y
  let members := membersOf fingers
  match fingers.length with
  | 2 =>
    let change : Int := (spanOf (fingers.map (·.filtered)) : Int) - (r.span0.getD 0 : Nat)
    if f.params.pinchStart ≤ change.natAbs then some ⟨.pinch, members, mean, change⟩
    else if f.params.scrollStart ≤ common then some ⟨.scroll, members, mean, 0⟩
    else none
  | 3 => if f.params.swipeStart ≤ common then some ⟨.swipe3, members, mean, 0⟩ else none
  | 4 => if f.params.swipeStart ≤ common then some ⟨.swipe4, members, mean, 0⟩ else none
  | _ => none

/-- The grant of a claim (R122). -/
def grantClaim (f : GestureInput) (c : Claim) (w : GestureWork) : GestureWork :=
  let n := nextInstance w.engine.counter
  let v : Service :=
    { gesture := c.gesture, inst := n, members := c.members
      lastSpan := if c.gesture = .pinch then spanOf (c.members.map (·.2)) else 0
      steps := 0, lock := none }
  { engine := { w.engine with service := some v, counter := n }
    events := w.events ++ [beginEvent v c.motion c.span f.time]
    granted := true }

/-- Whether a claim preempts the gesture in service (R124). -/
def preempts (c : Claim) (v : Service) : Bool :=
  decide (priority v.gesture < priority c.gesture) &&
    (v.members.map (·.1)).all fun i => (c.members.map (·.1)).contains i

/-- Stage 4. -/
def stageClaims (f : GestureInput) (w : GestureWork) : GestureWork :=
  match claimOf f w.engine.reference with
  | none => w
  | some c =>
    match w.engine.service with
    | none => if f.params.gestureFloor < priority c.gesture then grantClaim f c w else w
    | some v =>
      if preempts c v then
        grantClaim f c { w with
          engine := { w.engine with service := none }
          events := w.events ++ [endEvent v .preempted f.time] }
      else w

/-! ### Stage 5: steps (R125, R126) -/

/-- The step motion of a gesture (R125). -/
def stepMotion (f : GestureInput) (v : Service) : Pt :=
  meanOf (v.members.map fun m => ptSub (memberPos f m) m.2)

/-- The span of a gesture's members in this frame. -/
def memberSpan (f : GestureInput) (v : Service) : Nat := spanOf (v.members.map (memberPos f))

/-- A gesture with its members' last positions and last span brought up to date (R125). -/
def updateLast (f : GestureInput) (v : Service) : Service :=
  { v with
    members := v.members.map fun m => (m.1, memberPos f m)
    lastSpan := if v.gesture = .pinch then memberSpan f v else v.lastSpan }

/-- Stage 5: a step when the finger set holds the members alone and something moved. -/
def stageSteps (f : GestureInput) (w : GestureWork) : GestureWork :=
  match w.engine.service with
  | none => w
  | some v =>
    let motion := stepMotion f v
    let span : Int := if v.gesture = .pinch then (memberSpan f v : Int) - v.lastSpan else 0
    if !w.granted && !v.members.isEmpty && sameIds ((fingerSet f).map (·.id)) (v.members.map (·.1))
        && (motion != ⟨0, 0⟩ || span != 0) then
      { w with
        engine := { w.engine with service := some { updateLast f v with steps := satAdd 65535 v.steps 1 } }
        events := w.events ++ [stepEvent v motion span f.time] }
    else { w with engine := { w.engine with service := some (updateLast f v) } }

/-! ### Stage 6: the touch sequence (R116, R117, R132, R133) -/

/-- The sequence record brought up to date (R116). -/
def updateSequence (f : GestureInput) (granted : Bool) (q : Sequence) : Sequence :=
  { q with
    maxFingers := max q.maxFingers (touchingSet f).length
    maxDisp := greatestOf (q.maxDisp :: (touchingSet f).map fun k => k.maxDisp.getD 0)
    retracted := q.retracted || !f.retracted.isEmpty
    granted := q.granted || granted }

/-- Whether a closing sequence is a tap (R132). -/
def isTap (f : GestureInput) (q : Sequence) : Bool :=
  !q.granted && !q.retracted
    && decide ((f.time - q.start).toNat ≤ f.params.tapTime)
    && decide (q.maxDisp ≤ f.params.tapSlop)
    && decide (1 ≤ q.maxFingers ∧ q.maxFingers ≤ 3)
    && !q.firstZone.noTap && !f.typing && f.params.gestureFloor == 0

/-- The events of a pending tap published (R133, R134). -/
def publishTap : Option PendingTap → List Event
  | none => []
  | some t => [tapEvent t.fingers t.pos t.lift]

/-- A recognised tap (R133): a pending tap is published first; one finger is held, two or three
are published at once. -/
def takeTap (f : GestureInput) (q : Sequence) (w : GestureWork) : GestureWork :=
  let before := w.events ++ publishTap w.engine.tap
  if q.maxFingers = 1 then
    { w with
      engine := { w.engine with tap := some { fingers := 1, pos := q.tapPos, lift := f.time
                                              deadline := later f.time f.params.dragWindow } }
      events := before }
  else
    { w with
      engine := { w.engine with tap := none }
      events := before ++ [tapEvent q.maxFingers q.tapPos f.time] }

/-- Stage 6. -/
def stageSequence (f : GestureInput) (w : GestureWork) : GestureWork :=
  match w.engine.sequence with
  | none => w
  | some q =>
    let q' := updateSequence f w.granted q
    if (fingerSet f).isEmpty then
      let closed := { w with engine := { w.engine with sequence := none } }
      if isTap f q' then takeTap f q' closed else closed
    else { w with engine := { w.engine with sequence := some q' } }

/-! ### Frame work, endings and expiries -/

/-- The six stages of a frame (R113). -/
def gestureStages (f : GestureInput) (g : GestureEngine) : GestureWork :=
  stageSequence f (stageSteps f (stageClaims f (stageReference f (stageConfirmations f
    (stageEnds f { engine := g, events := [], granted := false })))))

/-- Expiry of the pending tap if the Clock has reached its deadline (R134). -/
def expireTap (now : Time) (g : GestureEngine) : GestureEngine × List Event :=
  match g.tap with
  | some t => if reached now t.deadline then ({ g with tap := none }, publishTap g.tap) else (g, [])
  | none => (g, [])

/-- Expiry of the drag lock if the Clock has reached its deadline (R139). -/
def expireLock (now : Time) (g : GestureEngine) : GestureEngine × List Event :=
  match g.service with
  | some v =>
    match v.lock with
    | some d => if reached now d then ({ g with service := none }, [endEvent v .completed now]) else (g, [])
    | none => (g, [])
  | none => (g, [])

/-- The frame work and, after it, the expiry of deadlines the Clock has already reached (R113). -/
def gestureFrame (f : GestureInput) (now : Time) (g : GestureEngine) : GestureEngine × List Event :=
  let w := gestureStages f g
  let a := expireTap now w.engine
  let b := expireLock now a.1
  (b.1, w.events ++ a.2 ++ b.2)

/-- The gesture state ended as a whole, with an outcome for a gesture in service (R130, R131). -/
def endGestures (o : EndOutcome) (t : Time) (g : GestureEngine) : GestureEngine × List Event :=
  (emptyGestures g.counter,
    match g.service with
    | some v => [endEvent v o t]
    | none => [])

/-- The floor at a frame start that goes on to tracking (R129, R135). -/
def applyFloor (floor : Nat) (t : Time) (g : GestureEngine) : GestureEngine × List Event :=
  let g' := if 1 ≤ floor then { g with tap := none } else g
  match g.service with
  | some v => if priority v.gesture ≤ floor then ({ g' with service := none }, [endEvent v .withdrawn t]) else (g', [])
  | none => (g', [])

end Sys2Proof.Machine
end

