-- ==== Sys2Proof/Machine/State.lean ====
section
/-! DEFINITION. The state of the part, the reasons a step can stop, and the state after
power-on reset. -/

namespace Sys2Proof.Machine

/-- The state. Every piece the spec gives the part stands in one of these blocks; the last three
fields are the model's own.
`area` is the image of the bytes the part has written into host memory: (host address, byte)
pairs with addresses strictly rising, an unlisted address being one the part has not written.
`readData` is the value the last read of CLOCK_LO returned. `pending` is the queue of commands
that are waiting, first in, first out. -/
structure State where
  clock        : Time
  latch        : BitVec 16
  regs         : Registers
  pad          : SurfaceUnit
  screen       : SurfaceUnit
  suspension   : Suspension
  gestures     : GestureEngine
  pen          : PenChannel
  penOut       : PenPublisher
  events       : EventPublisher
  inputs       : LineInputs
  posture      : PostureUnit
  command      : CommandUnit
  fault        : FaultUnit
  wakeReported : Bool
  area         : List Host.Cell
  readData     : BitVec 32
  pending      : List Instr
  deriving DecidableEq, Repr

/-- Faults of the model. There is none: every failure the spec describes (a failed memory
access, a failed fault record write) is an effect on the state. -/
inductive Fault : Type where
  deriving DecidableEq, Repr

/-- Refusals. -/
inductive Refusal where
  /-- Raised by `exec` alone, for a command that has no meaning yet. Safe: nothing is claimed of
  it. No arm raises it: every command has its meaning. -/
  | notModelled (mnemonic : String)
  deriving DecidableEq, Repr

/-- The part right after power-on reset (R24 and the reset columns of the state tables).
DESIGN CHOICE: the KEYACT line is low (log 14), nothing has been written into host memory
(log 2), no register has been read (log 15). -/
def State.reset : State where
  clock := 0
  latch := 0
  regs := resetRegisters
  pad := resetSurface
  screen := resetSurface
  suspension := resetSuspension
  gestures := emptyGestures 0
  pen := resetPen
  penOut := resetPenPublisher
  events := resetEventPublisher
  inputs := { level := false, typing := none }
  posture := resetPosture
  command := resetCommand
  fault := resetFault
  wakeReported := false
  area := []
  readData := 0
  pending := []

end Sys2Proof.Machine
end

