-- ==== Sys2Proof/Machine/Flags.lean ====
section
/-! DEFINITION. Flags and codes as the host sees them: the flag bytes and code bytes of the records
(section 8.4), the cause bits, the FENCED flags, and the register words (section 8.1). -/

namespace Sys2Proof.Machine

/-! ### Codes (Tables 8-2 to 8-11) -/

/-- RUN_STATE's code. -/
def runStateCode : RunState → Nat
  | .off => 0
  | .running => 1
  | .doze => 2
  | .halted => 3

/-- A bank's code. -/
def bankCode : BankId → Nat
  | .a => 0
  | .b => 1

/-- A posture's code. -/
def postureCode : Posture → Nat
  | .laptop => 0
  | .stand => 1
  | .tent => 2
  | .tablet => 3
  | .closed => 4

/-- A hand's code. -/
def handCode : Hand → Nat
  | .right => 0
  | .left => 1

/-- A surface state's code (Table 8-11). -/
def surfaceStateCode : SurfaceState → Nat
  | .inactive => 0
  | .settling => 1
  | .active => 2
  | .watch => 3

/-- A pen state's code (Tables 8-8, 8-11). -/
def penStateCode : PenState → Nat
  | .away => 0
  | .hover => 1
  | .touch => 2
  | .linger => 3

/-- A tool's code (Table 8-8). -/
def toolCode : Tool → Nat
  | .pen => 0
  | .eraser => 1

/-- A class's code (Table 8-9). -/
def classCode : Class → Nat
  | .undecided => 0
  | .finger => 1
  | .palm => 2
  | .ignored => 3

/-- A reason's code (Table 8-9). -/
def reasonCode : Reason → Nat
  | .none => 0
  | .size => 1
  | .flat => 2
  | .edgeGrow => 3
  | .neighbour => 4
  | .typing => 5
  | .penGuard => 6
  | .zone => 7
  | .suspended => 8

/-- An event kind's code (Table 8-7); 0 is EMPTY. -/
def eventKindCode : EventKind → Nat
  | .gestureBegin => 1
  | .gestureStep => 2
  | .gestureEnd => 3
  | .tap => 4
  | .penButton => 5
  | .postureChanged => 6
  | .wake => 7

/-- A stream's code in the fault record (Table 8-6). -/
def streamCode : Stream → Nat
  | .padFrames => 0
  | .screenFrames => 1
  | .pen => 2
  | .events => 3
  | .commands => 4

/-! ### Flag bytes -/

/-- An entry's flag byte (Table 8-9). -/
def contactFlagByte (f : ContactFlags) : Nat := flagBits [f.entered, f.confirmed, f.retracted, f.left, f.clamped]

/-- A frame slot header's flag byte (Table 8-9). -/
def frameFlagByte (f : FrameFlags) : Nat :=
  flagBits [f.blobsDropped, f.tableFull, f.penSuspended, f.typingGuard, f.lostEnds]

/-- A pen slot's flag byte (Table 8-8). -/
def penFlagByte (f : PenFlags) : Nat :=
  flagBits [f.enteredRange, f.tipDown, f.tipUp, f.leftRange, f.timedOut, f.clamped]

/-- Two sets of contact flags together (R179). -/
def orContactFlags (a b : ContactFlags) : ContactFlags :=
  { entered := a.entered || b.entered
    confirmed := a.confirmed || b.confirmed
    retracted := a.retracted || b.retracted
    left := a.left || b.left
    clamped := a.clamped || b.clamped }

/-- Two sets of frame flags together (R179). -/
def orFrameFlags (a b : FrameFlags) : FrameFlags :=
  { blobsDropped := a.blobsDropped || b.blobsDropped
    tableFull := a.tableFull || b.tableFull
    penSuspended := a.penSuspended || b.penSuspended
    typingGuard := a.typingGuard || b.typingGuard
    lostEnds := a.lostEnds || b.lostEnds }

/-- Two sets of pen flags together (R181). -/
def orPenFlags (a b : PenFlags) : PenFlags :=
  { enteredRange := a.enteredRange || b.enteredRange
    tipDown := a.tipDown || b.tipDown
    tipUp := a.tipUp || b.tipUp
    leftRange := a.leftRange || b.leftRange
    timedOut := a.timedOut || b.timedOut
    clamped := a.clamped || b.clamped }

/-! ### Causes and fences -/

/-- A cause's bit among the seven, PAD lowest (Table 8-2). -/
def causeBit : Cause → BitVec 7
  | .pad => 1#7
  | .screen => 2#7
  | .pen => 4#7
  | .event => 8#7
  | .command => 16#7
  | .wake => 32#7
  | .fault => 64#7

/-- Whether a cause is set. -/
def hasCause (r : Registers) (c : Cause) : Bool := r.causes &&& causeBit c != 0#7

/-- The cause of a surface's frame slots (R178). -/
def frameCause : Surface → Cause
  | .pad => .pad
  | .screen => .screen

/-- The stream of a surface's frame slots (R167). -/
def frameStream : Surface → Stream
  | .pad => .padFrames
  | .screen => .screenFrames

/-- Whether a stream is fenced. -/
def isFenced (f : Fences) : Stream → Bool
  | .padFrames => f.padFrames
  | .screenFrames => f.screenFrames
  | .pen => f.pen
  | .events => f.events
  | .commands => f.commands

/-- The flags with a stream fenced. -/
def setFence (f : Fences) : Stream → Fences
  | .padFrames => { f with padFrames := true }
  | .screenFrames => { f with screenFrames := true }
  | .pen => { f with pen := true }
  | .events => { f with events := true }
  | .commands => { f with commands := true }

/-! ### Register words (R160 to R164) and output lines (R10, R185, R198) -/

/-- CONTROL as read: NOTICE reads 0 (R161). -/
def controlWord (r : Registers) : BitVec 32 :=
  BitVec.ofNat 32 (r.run.toNat + r.mask.toNat * 2 ^ 8)

/-- STATUS as read (Table 8-2). -/
def statusWord (r : Registers) : BitVec 32 :=
  BitVec.ofNat 32 (runStateCode r.state + r.areaInvalid.toNat * 2 ^ 2 + r.causes.toNat * 2 ^ 8 +
    flagBits [r.fenced.padFrames, r.fenced.screenFrames, r.fenced.pen, r.fenced.events, r.fenced.commands] * 2 ^ 16)

/-- The value a read of a register returns (R160, R164); the register window holds nothing at
other offsets. -/
def readRegister (s : State) (offset : BitVec 8) : BitVec 32 :=
  match offset.toNat with
  | 0x00 => Config.ident
  | 0x04 => controlWord s.regs
  | 0x08 => statusWord s.regs
  | 0x0C => s.regs.areaLo
  | 0x10 => s.regs.areaHi
  | 0x14 => s.clock.setWidth 32
  | 0x18 => s.latch.setWidth 32
  | _ => 0

/-- The ATTN line: high while an unmasked cause is set (R185), and always in HALTED (R198). -/
def attn (s : State) : Bool := s.regs.state == .halted || s.regs.causes &&& s.regs.mask != 0#7

/-- The ERR line (R198). -/
def err (s : State) : Bool := s.regs.state == .halted

/-- SLOW_PAD (R10). -/
def slowPad (s : State) : Bool := s.pad.state == .watch

/-- SLOW_SCREEN (R10). -/
def slowScreen (s : State) : Bool := s.screen.state == .watch

end Sys2Proof.Machine
end

