-- ==== Sys2Proof/Machine/Operands.lean ====
section
/-! DEFINITION. The records of the exchange area: what the part reads from them (command
arguments, parameter lists, zone records) and the bytes it writes into them (section 8.4). -/

namespace Sys2Proof.Machine

/-! ### Parameters by number (Tables 7-3 to 7-5, R150) -/

/-- One parameter: its range and how a value is written into a bank. `wide` marks a gain, whose
value is taken as unsigned (R150). -/
structure Parameter where
  lo   : Int
  hi   : Int
  wide : Bool
  set  : Int → Bank → Bank

/-- The mapping parameters, k = 5 to 13 of a section, for a writer of the section's mapping. -/
def mappingParameter (originMax : Int) (write : (MapParams → MapParams) → Bank → Bank) : Nat → Option Parameter
  | 5 => some ⟨0, originMax, false, fun v => write fun m => { m with originX := v.toNat }⟩
  | 6 => some ⟨0, originMax, false, fun v => write fun m => { m with originY := v.toNat }⟩
  | 7 => some ⟨1, 4294967295, true, fun v => write fun m => { m with gainX := v.toNat }⟩
  | 8 => some ⟨1, 4294967295, true, fun v => write fun m => { m with gainY := v.toNat }⟩
  | 9 => some ⟨1, 65535, false, fun v => write fun m => { m with outMaxX := v.toNat }⟩
  | 10 => some ⟨1, 65535, false, fun v => write fun m => { m with outMaxY := v.toNat }⟩
  | 11 => some ⟨0, 1, false, fun v => write fun m => { m with flipX := v == 1 }⟩
  | 12 => some ⟨0, 1, false, fun v => write fun m => { m with flipY := v == 1 }⟩
  | 13 => some ⟨0, 1, false, fun v => write fun m => { m with swap := v == 1 }⟩
  | _ => none

/-- The parameters of a surface section, k = 1 to 24 (Table 7-3), for a writer of the section. -/
def surfaceParameter (write : (SurfaceParams → SurfaceParams) → Bank → Bank) (k : Nat) : Option Parameter :=
  match k with
  | 1 => some ⟨1, 4095, false, fun v => write fun p => { p with touchThreshold := v.toNat }⟩
  | 2 => some ⟨1, 4, false, fun v => write fun p => { p with minArea := v.toNat }⟩
  | 3 => some ⟨0, 1, false, fun v => write fun p => { p with squared := v == 1 }⟩
  | 4 => some ⟨0, 15, false, fun v => write fun p => { p with settleFrames := v.toNat }⟩
  | 14 => some ⟨128, 4095, false, fun v => write fun p => { p with gate := v.toNat }⟩
  | 15 => some ⟨0, 3, false, fun v => write fun p => { p with coastFrames := v.toNat }⟩
  | 16 => some ⟨1, 256, false, fun v => write fun p => { p with filterAlpha := v.toNat }⟩
  | 17 => some ⟨0, 63, false, fun v => write fun p => { p with deadband := v.toNat }⟩
  | 18 => some ⟨1, 1536, false, fun v => write fun p => { p with palmArea := v.toNat }⟩
  | 19 => some ⟨0, 4095, false, fun v => write fun p => { p with palmRadius := v.toNat }⟩
  | 20 => some ⟨1, 255, false, fun v => write fun p => { p with growLimit := v.toNat }⟩
  | 21 => some ⟨1, 8, false, fun v => write fun p => { p with decideFrames := v.toNat }⟩
  | 22 => some ⟨1, 256, false, fun v => write fun p => { p with flatLimit := v.toNat }⟩
  | 23 => some ⟨1, 1536, false, fun v => write fun p => { p with flatMinArea := v.toNat }⟩
  | 24 => some ⟨0, 15, false, fun v => write fun p => { p with retractFrames := v.toNat }⟩
  | k => mappingParameter 12032 (fun g => write fun p => { p with mapping := g p.mapping }) k

/-- Pad-only parameters, k = 30 to 39 (Table 7-3). -/
def padOnlyParameter (k : Nat) : Option Parameter :=
  match k with
  | 30 => some ⟨0, 6, false, fun v b => { b with padOnly.gestureFloor := v.toNat }⟩
  | 31 => some ⟨1, 4095, false, fun v b => { b with padOnly.scrollStart := v.toNat }⟩
  | 32 => some ⟨1, 4095, false, fun v b => { b with padOnly.pinchStart := v.toNat }⟩
  | 33 => some ⟨1, 4095, false, fun v b => { b with padOnly.swipeStart := v.toNat }⟩
  | 34 => some ⟨0, 1000000, false, fun v b => { b with padOnly.tapTime := v.toNat }⟩
  | 35 => some ⟨0, 4095, false, fun v b => { b with padOnly.tapSlop := v.toNat }⟩
  | 36 => some ⟨0, 1000000, false, fun v b => { b with padOnly.dragWindow := v.toNat }⟩
  | 37 => some ⟨0, 4095, false, fun v b => { b with padOnly.dragRadius := v.toNat }⟩
  | 38 => some ⟨0, 2000000, false, fun v b => { b with padOnly.dragLock := v.toNat }⟩
  | 39 => some ⟨0, 2000000, false, fun v b => { b with padOnly.typingGuard := v.toNat }⟩
  | _ => none

/-- Screen-only parameters, k = 40 to 42 (Table 7-3). -/
def screenOnlyParameter (k : Nat) : Option Parameter :=
  match k with
  | 40 => some ⟨0, 1, false, fun v b => { b with screenOnly.suspendAll := v == 1 }⟩
  | 41 => some ⟨0, 4095, false, fun v b => { b with screenOnly.guardMarginX := v.toNat }⟩
  | 42 => some ⟨0, 4095, false, fun v b => { b with screenOnly.guardMarginY := v.toNat }⟩
  | _ => none

/-- Pen parameters (Table 7-4). -/
def penParameter (k : Nat) : Option Parameter :=
  match k with
  | 1 => some ⟨1, 4095, false, fun v b => { b with pen.tipOn := v.toNat }⟩
  | 2 => some ⟨1, 4095, false, fun v b => { b with pen.tipOff := v.toNat }⟩
  | 3 => some ⟨1000, 1000000, false, fun v b => { b with pen.timeout := v.toNat }⟩
  | 4 => some ⟨0, 5000000, false, fun v b => { b with pen.linger := v.toNat }⟩
  | 14 => some ⟨1, 4094, false, fun v b => { b with pen.knotX1 := v.toNat }⟩
  | 15 => some ⟨1, 4094, false, fun v b => { b with pen.knotX2 := v.toNat }⟩
  | 16 => some ⟨1, 4094, false, fun v b => { b with pen.knotX3 := v.toNat }⟩
  | 17 => some ⟨0, 1023, false, fun v b => { b with pen.knotY0 := v.toNat }⟩
  | 18 => some ⟨0, 1023, false, fun v b => { b with pen.knotY1 := v.toNat }⟩
  | 19 => some ⟨0, 1023, false, fun v b => { b with pen.knotY2 := v.toNat }⟩
  | 20 => some ⟨0, 1023, false, fun v b => { b with pen.knotY3 := v.toNat }⟩
  | 21 => some ⟨0, 1023, false, fun v b => { b with pen.knotY4 := v.toNat }⟩
  | k => mappingParameter 65535 (fun g b => { b with pen.mapping := g b.pen.mapping }) k

/-- Shared parameters (Table 7-5). -/
def sharedParameter (k : Nat) : Option Parameter :=
  match k with
  | 1 => some ⟨1, 8, false, fun v b => { b with shared.wakeFrames := v.toNat }⟩
  | 2 => some ⟨0, 1, false, fun v b => { b with shared.publishPalms := v == 1 }⟩
  | 3 => some ⟨0, 1, false, fun v b => { b with shared.publishIdle := v == 1 }⟩
  | _ => none

/-- The parameter of a number: pad 100 + k, screen 200 + k, pen 300 + k, shared 400 + k; `none`
for an unknown number (R149). -/
def parameterOf (n : Nat) : Option Parameter :=
  match n / 100 with
  | 1 => if n % 100 < 30 then surfaceParameter (fun g b => { b with pad := g b.pad }) (n % 100)
         else padOnlyParameter (n % 100)
  | 2 => if n % 100 < 30 then surfaceParameter (fun g b => { b with screen := g b.screen }) (n % 100)
         else screenOnlyParameter (n % 100)
  | 3 => penParameter (n % 100)
  | 4 => sharedParameter (n % 100)
  | _ => none

/-- The value of a list entry for a parameter (R150): unsigned for a gain, else signed. -/
def entryValue (p : Parameter) (v : BitVec 32) : Int := if p.wide then v.toNat else v.toInt

/-- One list entry applied to the staging copy (R152): an unknown number is skipped and counted;
a value outside its range takes the nearer limit and is counted. -/
def applyEntry (g : Staging) (e : BitVec 64) : Staging :=
  match parameterOf (word32At e 0).toNat with
  | none => { g with applied := g.applied + 1, skipped := g.skipped + 1 }
  | some p =>
    let v := entryValue p (word32At e 4)
    let l := limitTo p.lo p.hi v
    { g with
      applied := g.applied + 1
      bank := p.set l g.bank
      clamped := if l = v then g.clamped else g.clamped + 1 }

/-- The check of the staging copy as a whole (R153): the detail of the first check that fails. -/
def structureFault (b : Bank) : Option Nat :=
  firstMet
    [ (!(decide (b.pen.knotX1 < b.pen.knotX2) && decide (b.pen.knotX2 < b.pen.knotX3) &&
         decide (b.pen.knotY0 ≤ b.pen.knotY1) && decide (b.pen.knotY1 ≤ b.pen.knotY2) &&
         decide (b.pen.knotY2 ≤ b.pen.knotY3) && decide (b.pen.knotY3 ≤ b.pen.knotY4)), 2),
      (decide (b.pen.tipOn < b.pen.tipOff), 3),
      (decide (b.pad.palmArea < b.pad.minArea), 4),
      (decide (b.screen.palmArea < b.screen.minArea), 5) ]

/-! ### Zone records (Table 8-10, R156) -/

/-- A zone record limited to an output range: the place it gives, whether a coordinate was
clamped, and whether the zone was dropped. -/
def readZone (rangeX rangeY : Nat) (r : BitVec 128) : Option Zone × Bool × Bool :=
  if numAt r 0 = 0 then (none, false, false)
  else
    let f := byteAt r 1
    let x0 := word16At r 4
    let y0 := word16At r 6
    let x1 := word16At r 8
    let y1 := word16At r 10
    let z : Zone :=
      { x0 := min x0 rangeX, y0 := min y0 rangeY, x1 := min x1 rangeX, y1 := min y1 rangeY
        flags := { ignoreZone := f.getLsbD 0, palmEdge := f.getLsbD 1, typingExempt := f.getLsbD 2
                   wake := f.getLsbD 3, noTap := f.getLsbD 4 } }
    let clamped := decide (z.x0 ≠ x0 ∨ z.y0 ≠ y0 ∨ z.x1 ≠ x1 ∨ z.y1 ≠ y1)
    if z.x1 < z.x0 ∨ z.y1 < z.y0 then (none, clamped, true) else (some z, clamped, false)

/-- One zone record taken by a LOAD_ZONES (R156). -/
def applyZone (rangeX rangeY : Nat) (g : ZoneStaging) (r : BitVec 128) : ZoneStaging :=
  let z := readZone rangeX rangeY r
  { places := g.places ++ [z.1]
    clamped := g.clamped + z.2.1.toNat
    dropped := g.dropped + z.2.2.toNat }

/-! ### Command records (Tables 8-4, 8-5, 8-12, 8-13) -/

/-- The kind of a command record. -/
def recordKind (r : BitVec 512) : Nat := numAt r 1

/-- The area offset argument of a command record. -/
def recordOffset (r : BitVec 512) : Nat := (word32At r 8).toNat

/-- The code arguments of a kind: byte offset and largest code, in offset order (Table 8-5). -/
def argumentLimits : Nat → List (Nat × Nat)
  | 1 => [(4, 1)]
  | 2 => [(4, 1), (5, 16)]
  | 3 => (List.range 15).map fun i => (4 + i, 1)
  | 4 => [(4, 4)]
  | 5 => [(4, 1), (5, 1)]
  | 6 => [(4, 1)]
  | 7 => [(4, 1), (5, 1), (6, 1)]
  | 8 => [(4, 1)]
  | _ => []

/-- The byte offset of the first argument outside its set of codes (R173). -/
def badArgument (r : BitVec 512) : Option Nat :=
  ((argumentLimits (recordKind r)).find? fun a => decide (a.2 < numAt r a.1)).map (·.1)

/-- Whether a kind stands in Table 8-12. -/
def knownKind (k : Nat) : Bool := decide (1 ≤ k ∧ k ≤ 11)

/-- The surface a code names (0 pad, 1 screen). -/
def surfaceOfCode (n : Nat) : Surface := if n = 0 then .pad else .screen

/-- The bank a code names (0 A, 1 B). -/
def bankOfCode (n : Nat) : BankId := if n = 0 then .a else .b

/-- The hand a code names (0 RIGHT, 1 LEFT). -/
def handOfCode (n : Nat) : Hand := if n = 0 then .right else .left

/-- The posture a code names. -/
def postureOfCode : Nat → Posture
  | 0 => .laptop
  | 1 => .stand
  | 2 => .tent
  | 3 => .tablet
  | _ => .closed

/-- A posture map entry of a SET_POSTURE_MAP record (Table 8-5). -/
def mapEntryAt (r : BitVec 512) (p : Nat) : MapEntry :=
  { bank := bankOfCode (numAt r (4 + 3 * p))
    padActive := numAt r (5 + 3 * p) == 1
    screenActive := numAt r (6 + 3 * p) == 1 }

/-- The five entries of a SET_POSTURE_MAP record. -/
def mapOfRecord (r : BitVec 512) : PostureMap :=
  { laptop := mapEntryAt r 0, stand := mapEntryAt r 1, tent := mapEntryAt r 2
    tablet := mapEntryAt r 3, closed := mapEntryAt r 4 }

/-- Result codes (Table 8-13). -/
def resultOk : Nat := 0
/-- OK_ADJUSTED. -/
def resultAdjusted : Nat := 1
/-- UNKNOWN_KIND. -/
def resultUnknownKind : Nat := 16
/-- BAD_VALUE. -/
def resultBadValue : Nat := 17
/-- BAD_OFFSET. -/
def resultBadOffset : Nat := 18
/-- BAD_STRUCTURE. -/
def resultBadStructure : Nat := 19
/-- MEMORY_FAULT. -/
def resultMemoryFault : Nat := 20

/-- The final state of a result: DONE 3 for OK and OK_ADJUSTED, else REFUSED 4 (R171). -/
def finalState (result : Nat) : Nat := if result ≤ 1 then 3 else 4

/-- Result data bytes, the rest of the 32 being 0 (Table 8-5). -/
def resultData (l : List Byte) : List Byte := l ++ List.replicate (32 - l.length) 0

/-- LOAD_BANK's result data: ignored and clamped counts. -/
def bankCounts (ignored clamped : Nat) : List Byte := resultData (leBytes 2 ignored ++ leBytes 2 clamped)

/-- LOAD_ZONES' result data: zones clamped and zones dropped. -/
def zoneCounts (clamped dropped : Nat) : List Byte := resultData [byte1 clamped, byte1 dropped]

/-! ### Records written (Tables 8-6 to 8-9) -/

/-- An event record (Table 8-7), with the LOSS flag as the Publisher sets it. -/
def eventBytes (e : Event) (loss : Bool) : List Byte :=
  [byte1 (eventKindCode e.kind), byte1 e.type, byte1 e.fingers, byte1 e.outcome, byte1 loss.toNat, byte1 e.inst]
    ++ leBytes 2 e.steps ++ signed2 e.dx ++ signed2 e.dy ++ signed2 e.span ++ [0, 0]
    ++ stampBytes e.time ++ List.replicate 12 0

/-- A pen slot (Table 8-8). -/
def penSlotBytes (q : PenSample) (merged : Nat) : List Byte :=
  [1, byte1 (penStateCode q.state), byte1 (toolCode q.tool), byte1 (flagBits [q.button1, q.button2]),
    byte1 (penFlagByte q.flags), byte1 (bankCode q.bank), byte1 merged, q.hover]
    ++ signed2 q.pos.x ++ signed2 q.pos.y ++ leBytes 2 q.pressure ++ [signed1 q.tiltX, signed1 q.tiltY]
    ++ stampBytes q.time ++ List.replicate 44 0

/-- A frame slot header (Table 8-9). -/
def headerBytes (count : Nat) (f : PendingFrame) : List Byte :=
  [1, byte1 (count % 128 + 128 * bankCode f.bank), byte1 f.merged, byte1 f.entries.length,
    byte1 (frameFlagByte f.flags), 0, 0, 0] ++ stampBytes f.time ++ List.replicate 20 0

/-- A frame slot entry (Table 8-9). -/
def entryBytes (e : Entry) : List Byte :=
  [byte1 e.id, byte1 (contactFlagByte e.flags), byte1 (classCode e.cls), byte1 (reasonCode e.reason),
    byte1 (e.zone.getD 255), 0] ++ signed2 e.pos.x ++ signed2 e.pos.y ++ leBytes 2 e.area ++ leBytes 2 e.peak
    ++ List.replicate 10 0

/-- A fault record (Table 8-6). -/
def faultBytes (f : StoredFailure) (later : Nat) : List Byte :=
  [1, byte1 (streamCode f.stream), byte1 f.write.toNat, byte1 later] ++ leBytes 4 f.offset ++ stampBytes f.time
    ++ List.replicate 52 0

/-- A surface block of the snapshot record (Table 8-11). -/
def snapshotBlock (u : SurfaceUnit) : List Byte :=
  leBytes 2 u.counters.short ++ leBytes 2 u.counters.long ++ leBytes 2 u.counters.orphan ++ leBytes 2 u.counters.gap
    ++ leBytes 2 u.counters.overrun ++ leBytes 2 u.counters.settleDiscards ++ leBytes 2 u.counters.blobsDropped
    ++ leBytes 2 u.counters.tableFull ++ leBytes 2 u.counters.confirmed ++ leBytes 2 u.counters.rejected
    ++ leBytes 2 u.counters.retractions ++ [0, 0] ++ leBytes 4 u.created.toNat ++ [byte1 u.publisher.count, 0, 0, 0]

/-- The snapshot record (Table 8-11). -/
def snapshotBytes (s : State) : List Byte :=
  leBytes 8 s.clock.toNat
    ++ [byte1 (runStateCode s.regs.state), byte1 (postureCode s.posture.posture), byte1 (handCode s.posture.hand),
        byte1 (penStateCode s.pen.state), byte1 (surfaceStateCode s.pad.state), byte1 (surfaceStateCode s.screen.state),
        byte1 (bankCode s.pad.bankInForce), byte1 (bankCode s.screen.bankInForce)]
    ++ snapshotBlock s.pad ++ snapshotBlock s.screen
    ++ leBytes 2 s.pen.linkErrors ++ leBytes 2 s.pen.timeouts ++ leBytes 4 s.pen.count.toNat
    ++ leBytes 2 s.events.lost ++ leBytes 2 s.events.coalesced
    ++ [byte1 s.gestures.counter, byte1 s.fault.later, byte1 s.fault.written.toNat] ++ List.replicate 33 0

/-! ### Addresses and the order of writing (R167) -/

/-- The exchange area base (R163). -/
def areaBase (r : Registers) : BitVec 64 := r.areaHi ++ r.areaLo

/-- The host address of an area offset (R167); the sum wraps at 2^64 (log 17). -/
def hostAddress (r : Registers) (offset : Nat) : Nat := (areaBase r + BitVec.ofNat 64 offset).toNat

/-- Bytes at consecutive offsets, each with its host address. -/
def cellsAt (r : Registers) (offset : Nat) (bytes : List Byte) : List Host.Cell :=
  bytes.zipIdx.map fun q => (hostAddress r (offset + q.2), q.1)

/-- A record's cells in the order they are written: every byte from offset 1 on, then the state
or kind byte at offset 0 (R167). -/
def stateLast (cells : List Host.Cell) : List Host.Cell := cells.tail ++ cells.head?.toList

/-- The writes of an event record (R182). -/
def eventCells (r : Registers) (position : Nat) (e : Event) (loss : Bool) : List Host.Cell :=
  stateLast (cellsAt r (Config.eventStripAt + 32 * position) (eventBytes e loss))

/-- The writes of a pen slot (R181). -/
def penSlotCells (r : Registers) (index : Nat) (q : PenSample) (merged : Nat) : List Host.Cell :=
  stateLast (cellsAt r (Config.penSlotsAt + 64 * index) (penSlotBytes q merged))

/-- The area offset of a frame slot. -/
def frameSlotOffset (sf : Surface) (index : Nat) : Nat := Config.frameSlotsAt sf + Config.frameSlotSize sf * index

/-- The writes of a frame slot: the entries in order, then the header, its state byte last
(R178). -/
def frameSlotCells (r : Registers) (sf : Surface) (index count : Nat) (f : PendingFrame) : List Host.Cell :=
  cellsAt r (frameSlotOffset sf index + 32) ((f.entries.map entryBytes).flatten)
    ++ stateLast (cellsAt r (frameSlotOffset sf index) (headerBytes count f))

/-- The writes of the fault record (R196). -/
def faultCells (r : Registers) (f : StoredFailure) (later : Nat) : List Host.Cell :=
  stateLast (cellsAt r Config.faultRecordAt (faultBytes f later))

/-- The area offset of a command record. -/
def recordAt (index : Nat) : Nat := 64 * index

/-- The final writes of a command (step 3 of R171): result, detail, result data, final state. -/
def finalCells (r : Registers) (index result detail : Nat) (data : List Byte) : List Host.Cell :=
  cellsAt r (recordAt index + 2) [byte1 result, byte1 detail] ++ cellsAt r (recordAt index + 32) data
    ++ cellsAt r (recordAt index) [byte1 (finalState result)]

/-- The write of TAKEN (step 1 of R171). -/
def takenCells (r : Registers) (index : Nat) : List Host.Cell := cellsAt r (recordAt index) [2]

end Sys2Proof.Machine
end

