-- ==== Sys2Proof/Machine/Ops.lean ====
section
/-! DEFINITION. The operations the commands share: the memory image, surfaces and banks, causes
and fences, and the Fault Unit's reports. -/

namespace Sys2Proof.Machine

/-! ### The memory image (log 2) -/

/-- The byte the part last wrote at a host address; `none` where it has written nothing. -/
def readByte : List Host.Cell → Nat → Option Byte
  | [], _ => none
  | (a, b) :: m, k => if a = k then some b else readByte m k

/-- Writes one byte, keeping addresses strictly rising. -/
def writeByte : List Host.Cell → Host.Cell → List Host.Cell
  | [], c => [c]
  | d :: m, c => if c.1 < d.1 then c :: d :: m else if c.1 = d.1 then c :: m else d :: writeByte m c

/-- Writes bytes in order. -/
def writeBytes (m : List Host.Cell) (cells : List Host.Cell) : List Host.Cell := cells.foldl writeByte m

/-- The canonical form: addresses strictly rising. (An unlisted address reads as no value, so no
listed byte equals what it would read as unlisted.) -/
def Memory.wf : List Host.Cell → Bool
  | [] => true
  | c :: m => m.all (fun d => decide (c.1 < d.1)) && Memory.wf m

/-- The cells of a record write that reached memory before the write at an address failed
(log 18). -/
def landedBefore (address : Nat) (cells : List Host.Cell) : List Host.Cell :=
  cells.takeWhile fun c => c.1 != address

/-- Whether a record write makes a write at an address. -/
def writesAt (address : Nat) (cells : List Host.Cell) : Bool := cells.any fun c => c.1 == address

/-- Bytes written into host memory. -/
def putCells (s : State) (cells : List Host.Cell) : State := { s with area := writeBytes s.area cells }

/-! ### Surfaces, banks, postures -/

/-- A surface's unit. -/
def surfaceOf (s : State) : Surface → SurfaceUnit
  | .pad => s.pad
  | .screen => s.screen

/-- The state with a surface's unit replaced. -/
def withSurface (s : State) (sf : Surface) (u : SurfaceUnit) : State :=
  match sf with
  | .pad => { s with pad := u }
  | .screen => { s with screen := u }

/-- A bank's values (R149). -/
def bankOf (q : PostureUnit) : BankId → Bank
  | .a => q.bankA
  | .b => q.bankB

/-- The Posture Unit with a bank replaced. -/
def withBank (q : PostureUnit) (i : BankId) (b : Bank) : PostureUnit :=
  match i with
  | .a => { q with bankA := b }
  | .b => { q with bankB := b }

/-- A posture's map entry (R142). -/
def mapEntryOf (m : PostureMap) : Posture → MapEntry
  | .laptop => m.laptop
  | .stand => m.stand
  | .tent => m.tent
  | .tablet => m.tablet
  | .closed => m.closed

/-- The map entry of the current posture (R143). -/
def currentEntry (q : PostureUnit) : MapEntry := mapEntryOf q.map q.posture

/-- A surface's activity in a map entry. -/
def activityOf (e : MapEntry) : Surface → Bool
  | .pad => e.padActive
  | .screen => e.screenActive

/-- The bank in force of the screen, which the Pen Channel uses (R26, R149). -/
def penBank (s : State) : Bank := bankOf s.posture s.screen.bankInForce

/-- Whether the run state is RUNNING or DOZE. A stop in progress still is (R166). -/
def isRunning (s : State) : Bool := s.regs.state == .running || s.regs.state == .doze

/-! ### Causes, fences, the wake report -/

/-- Sets a cause bit (R162). -/
def setCause (s : State) (c : Cause) : State := { s with regs := { s.regs with causes := s.regs.causes ||| causeBit c } }

/-- Sets a stream's FENCED flag (R195). -/
def fence (s : State) (t : Stream) : State := { s with regs := { s.regs with fenced := setFence s.regs.fenced t } }

/-! ### The Fault Unit (R196) -/

/-- Begins a write of the fault record for the stored failure with the present count. -/
def startRecordWrite (r : Registers) (f : FaultUnit) : FaultUnit :=
  match f.stored with
  | some x => { f with write := some { cells := faultCells r x f.later, again := false, stale := false } }
  | none => f

/-- Takes the write of the record after a stored failure or its count has changed: a write in
progress is followed by one further write, else a write begins (R196, R197). -/
def queueRecordWrite (r : Registers) (f : FaultUnit) : FaultUnit :=
  match f.write with
  | some w => { f with write := some { w with again := true } }
  | none => startRecordWrite r f

/-- A failure reported to the Fault Unit (R196): the first is stored, a later one counted. DESIGN CHOICE
(log 44): after a FAULT clear the write it overtook may still be in progress; a second failure reported
then is counted too, and the new failure's first record write, which follows that write, carries it. -/
def report (s : State) (t : Stream) (isWrite : Bool) (offset : Nat) : State :=
  let f := s.fault
  let f' : FaultUnit :=
    match f.stored with
    | none => { f with stored := some { stream := t, write := isWrite, offset := offset, time := s.clock }, later := 0 }
    | some _ => { f with later := satAdd 255 f.later 1 }
  { s with fault := queueRecordWrite s.regs f' }

/-- A failure of a stream's own access: reported, and the stream fenced (R195). -/
def failStream (s : State) (t : Stream) (isWrite : Bool) (offset : Nat) : State :=
  fence (report s t isWrite offset) t

end Sys2Proof.Machine
end

