-- ==== Sys2Proof/Machine/Publish.lean ====
section
/-! DEFINITION. The Publisher (chapter 9). What is handed over is taken one item at a time, in
the order handed over: an item that meets an access of its own stream still under way waits in
`handed` (log 6). Each function here works on one publisher's own state. -/

namespace Sys2Proof.Machine

/-! ### Frames (R176 to R180) -/

/-- Whether an entry of a handover is listed (R176). `pendingIds` are the ids in the pending
frame, `shown` the shown-undecided set. -/
def isListed (palms : Bool) (pendingIds shown : List Nat) (e : Entry) : Bool :=
  palms || e.cls == .finger || e.flags.retracted || (e.cls == .undecided && e.flags.entered)
    || (shown.contains e.id && (e.flags.left || e.cls != .undecided))
    || (e.flags.left && pendingIds.contains e.id)

/-- The shown-undecided set after one entry (R176). -/
def showEntry (palms : Bool) (pendingIds : List Nat) (shown : List Nat) (e : Entry) : List Nat :=
  if e.flags.left then shown.filter (· != e.id)
  else if isListed palms pendingIds shown e then
    if e.cls = .undecided then (if shown.contains e.id then shown else shown ++ [e.id])
    else shown.filter (· != e.id)
  else shown

/-- The ids of a pending frame's entries. -/
def pendingIds (p : FramePublisher) : List Nat :=
  match p.pending with
  | some f => f.entries.map (·.id)
  | none => []

/-- A listed entry merged into a held one (R179): the entry's values are new, its flags joined. -/
def mergeEntry (held new : Entry) : Entry := { new with number := held.number, flags := orContactFlags held.flags new.flags }

/-- Whether entry `a` is older than entry `b` when the creation counter stands at `c` (R46). -/
def olderEntry (c : BitVec 32) (a b : Entry) : Bool := decide ((c - b.number).toNat < (c - a.number).toNat)

/-- Adds an entry at its place in creation order (R179). -/
def insertEntry (c : BitVec 32) (e : Entry) : List Entry → List Entry
  | [] => [e]
  | h :: t => if olderEntry c e h then e :: h :: t else h :: insertEntry c e t

/-- One listed entry merged into the entries of a pending frame (R179). -/
def mergeListed (c : BitVec 32) (held : List Entry) (e : Entry) : List Entry :=
  if held.any fun h => h.id == e.id then held.map fun h => if h.id = e.id then mergeEntry h e else h
  else insertEntry c e held

/-- A held entry limited to the output range of the handover's bank (R179). -/
def limitEntry (rangeX rangeY : Nat) (e : Entry) : Entry :=
  let l := limitPt rangeX rangeY e.pos
  { e with pos := l.1, flags := { e.flags with clamped := e.flags.clamped || l.2 } }

/-- A handover merged into the pending frame (R179). -/
def mergeFrame (c : BitVec 32) (listed : List Entry) (h : Handover) (f : PendingFrame) : PendingFrame :=
  { entries := (listed.foldl (mergeListed c) f.entries).map (limitEntry h.rangeX h.rangeY)
    time := h.time
    bank := h.bank
    flags := orFrameFlags f.flags h.flags
    merged := satAdd 255 f.merged 1 }

/-- A handover as the content to offer when there is no pending frame (R178). -/
def freshFrame (listed : List Entry) (h : Handover) : PendingFrame :=
  { entries := listed, time := h.time, bank := h.bank, flags := h.flags, merged := 0 }

/-- Removes the first entry that meets a test. -/
def removeFirst (test : Entry → Bool) : List Entry → List Entry
  | [] => []
  | e :: es => if test e then es else e :: removeFirst test es

/-- Drops one LEFT entry (R180): the oldest never confirmed, else the oldest confirmed. -/
def dropLeft (l : List Entry) : List Entry :=
  if l.any fun e => e.flags.left && !e.confirmed then removeFirst (fun e => e.flags.left && !e.confirmed) l
  else removeFirst (fun e => e.flags.left) l

/-- Drops LEFT entries, `n` times. -/
def dropLefts : Nat → List Entry → List Entry
  | 0, l => l
  | n + 1, l => dropLefts n (dropLeft l)

/-- The cut of a frame to the slot's capacity (R180). -/
def cutFrame (capacity : Nat) (f : PendingFrame) : PendingFrame :=
  if f.entries.length ≤ capacity then f
  else
    { f with
      entries := dropLefts (f.entries.length - capacity) f.entries
      flags := { f.flags with lostEnds := true } }

/-- One handover taken (R176 to R180): selection, the idle marker, merging, the cut, and the
offer, which begins with the read of the slot's state byte unless the stream is fenced. -/
def takeHandover (sf : Surface) (fenced : Bool) (now : Time) (c : BitVec 32) (h : Handover) (p : FramePublisher) :
    FramePublisher :=
  let held := pendingIds p
  let listed := h.entries.filter (isListed h.palms held p.shown)
  let offered : Option PendingFrame :=
    match p.pending with
    | some f => some (cutFrame (Config.slotEntries sf) (mergeFrame c listed h f))
    | none =>
      if h.idle || !listed.isEmpty || p.idle then some (cutFrame (Config.slotEntries sf) (freshFrame listed h))
      else none
  { p with
    shown := h.entries.foldl (showEntry h.palms held) p.shown
    idle := !listed.isEmpty
    pending := offered
    access := if offered.isSome && !fenced then .reading now else .none }

/-- Takes handovers in order until one is on offer. -/
def runFrames (sf : Surface) (fenced : Bool) (now : Time) (c : BitVec 32) :
    List Handover → FramePublisher → FramePublisher
  | [], p => { p with handed := [] }
  | h :: hs, p =>
    if p.access = .none then runFrames sf fenced now c hs (takeHandover sf fenced now c h p)
    else { p with handed := h :: hs }

/-- A frame handed over (R57): it is taken at once unless an access is under way. -/
def handFrame (s : State) (sf : Surface) (h : Handover) : State :=
  let u := surfaceOf s sf
  withSurface s sf { u with
    publisher := runFrames sf (isFenced s.regs.fenced (frameStream sf)) s.clock u.created
      (u.publisher.handed ++ [h]) u.publisher }

/-- The frame access has ended; what has been handed over meanwhile is taken. -/
def resumeFrames (s : State) (sf : Surface) : State :=
  let u := surfaceOf s sf
  withSurface s sf { u with
    publisher := runFrames sf (isFenced s.regs.fenced (frameStream sf)) s.clock u.created
      u.publisher.handed { u.publisher with access := .none } }

/-! ### Pen samples (R181) -/

/-- A sample merged into the pending sample (R181). -/
def mergeSample (q : PenSample) : Option (PenSample × Nat) → PenSample × Nat
  | none => (q, 0)
  | some (held, n) => ({ q with flags := orPenFlags held.flags q.flags }, satAdd 255 n 1)

/-- Takes samples in order until one is on offer (R181). -/
def runSamples (fenced : Bool) (now : Time) : List PenSample → PenPublisher → PenPublisher
  | [], p => { p with handed := [] }
  | q :: qs, p =>
    if p.access = .none then
      runSamples fenced now qs { p with
        pending := some (mergeSample q p.pending)
        access := if fenced then .none else .reading now }
    else { p with handed := q :: qs }

/-- Samples handed over, in order (R104). -/
def handSamples (s : State) (l : List PenSample) : State :=
  { s with penOut := runSamples s.regs.fenced.pen s.clock (s.penOut.handed ++ l) s.penOut }

/-- The pen slot access has ended; what has been handed over meanwhile is taken. -/
def resumeSamples (s : State) : State :=
  { s with penOut := runSamples s.regs.fenced.pen s.clock s.penOut.handed { s.penOut with access := .none } }

/-! ### Events (R182 to R184) -/

/-- A step joined to a held step of the same instance (R183). -/
def coalesce (held new : Event) : Event :=
  { held with
    dx := sat16 (held.dx + new.dx)
    dy := sat16 (held.dy + new.dy)
    span := sat16 (held.span + new.span)
    steps := satAdd 65535 held.steps new.steps
    time := new.time }

/-- Whether a new event joins the youngest held one (R183). -/
def joinsStep (held new : Event) : Bool :=
  held.kind == .gestureStep && new.kind == .gestureStep && held.inst == new.inst

/-- Discards the oldest held GESTURE_STEP (R184). -/
def discardStep : List Event → List Event
  | [] => []
  | e :: es => if e.kind = .gestureStep then es else e :: discardStep es

/-- Discards one event of a full queue (R184): the oldest step, else the oldest event. -/
def discardOne (q : List Event) : List Event :=
  if q.any fun e => e.kind == .gestureStep then discardStep q else q.tail

/-- The holding queue's capacity (R183). -/
def queueLimit : Nat := 8

/-- A new event that must be held (R183, R184). -/
def holdEvent (e : Event) (p : EventPublisher) : EventPublisher :=
  match p.queue.getLast? with
  | some y =>
    if joinsStep y e then
      { p with queue := p.queue.dropLast ++ [coalesce y e], coalesced := bump16 p.coalesced }
    else if p.queue.length < queueLimit then { p with queue := p.queue ++ [e] }
    else { p with queue := discardOne p.queue ++ [e], lost := bump16 p.lost, loss := true }
  | none => { p with queue := [e] }

/-- A new event held, if there is one. -/
def holdFresh : Option Event → EventPublisher → EventPublisher
  | some e, p => holdEvent e p
  | none, p => p

/-- Takes events and drains in order until an access is under way (R182): while EVENTS is fenced
a new event is held and a drain does nothing; else the oldest held event, or the new event when
none is held, is offered at the write position. -/
def runEvents (fenced : Bool) (now : Time) : List (Option Event) → EventPublisher → EventPublisher
  | [], p => { p with handed := [] }
  | x :: xs, p =>
    if p.access = .none then
      if fenced then runEvents fenced now xs (holdFresh x p)
      else if p.queue.isEmpty && x.isNone then runEvents fenced now xs p
      else runEvents fenced now xs { p with access := .reading x now }
    else { p with handed := x :: xs }

/-- Items handed to the event publisher, in order. -/
def handItems (s : State) (l : List (Option Event)) : State :=
  { s with events := runEvents s.regs.fenced.events s.clock (s.events.handed ++ l) s.events }

/-- Events handed over, in the order generated. -/
def handEvents (s : State) (l : List Event) : State := handItems s (l.map some)

/-- The drain of a frame end (R182). -/
def drainEvents (s : State) : State := handItems s [none]

/-- The event on offer: the oldest held, else the new one (R182). -/
def eventOnOffer (p : EventPublisher) (fresh : Option Event) : Option Event :=
  match p.queue with
  | e :: _ => some e
  | [] => fresh

/-- The event access has ended with the new event disposed of; what was handed over meanwhile is
taken. -/
def resumeEvents (s : State) (p : EventPublisher) : State :=
  { s with events := runEvents s.regs.fenced.events s.clock p.handed { p with access := .none } }

/-- After a successful record write (R182): the record's event leaves; the next held event, or
the new event, is offered; else what was handed over meanwhile is taken. -/
def afterEventWritten (s : State) (fresh : Option Event) (loss : Bool) : State :=
  let p := s.events
  let p' : EventPublisher :=
    { p with
      position := (p.position + 1) % 32
      loss := if loss then false else p.loss
      queue := p.queue.tail }
  let fresh' := if p.queue.isEmpty then none else fresh
  if p'.queue.isEmpty && fresh'.isNone then resumeEvents s p'
  else { s with events := { p' with access := .reading fresh' s.clock } }

end Sys2Proof.Machine
end

