-- ==== Sys2Proof/Machine/CommandUnit.lean ====
section
/-! DEFINITION. The Command Unit (section 8.5): passes over the command list, the notice, and the
progress of the command in flight. -/

namespace Sys2Proof.Machine

/-- The Command Unit replaced. -/
def withCommand (s : State) (c : CommandUnit) : State := { s with command := c }

/-! ### Passes (R170) -/

/-- A pass begins at the scan position: its first record is read now. -/
def beginPass (s : State) : State :=
  withCommand s { s.command with
    pass := some { index := s.command.scan, examined := 0, last := none, since := s.clock } }

/-- Whether another pass may begin: RUNNING or DOZE, no stop in progress, COMMANDS open. -/
def passAllowed (s : State) : Bool := isRunning s && !s.regs.stopping && !s.regs.fenced.commands

/-- A pass that the rescan flag asked for begins, and the flag is cleared (R170). -/
def takeRescan (s : State) : State :=
  if s.command.rescan && passAllowed s then beginPass (withCommand s { s.command with rescan := false })
  else s

/-- The scan position after a pass: the index after the last record taken (R170). -/
def scanAfter (c : CommandUnit) (p : Pass) : Nat :=
  match p.last with
  | some i => (i + 1) % 16
  | none => c.scan

/-- The pass ends; another begins if the rescan flag is set and COMMANDS is open (R170). -/
def endPass (s : State) : State :=
  match s.command.pass with
  | some p => takeRescan (withCommand s { s.command with scan := scanAfter s.command p, pass := none })
  | none => s

/-- The pass goes on to the next index, or ends: after the 16th record, during a stop, or with
COMMANDS fenced (R170, R172). -/
def advance (s : State) : State :=
  match s.command.pass with
  | some p =>
    if p.examined + 1 < 16 ∧ s.regs.stopping = false ∧ s.regs.fenced.commands = false then
      withCommand s { s.command with
        pass := some { p with index := (p.index + 1) % 16, examined := p.examined + 1, since := s.clock } }
    else endPass s
  | none => s

/-- The record of the command in flight counts as taken by the pass (R170). -/
def markTaken (index : Nat) (s : State) : State :=
  match s.command.pass with
  | some p => withCommand s { s.command with pass := some { p with last := some index } }
  | none => s

/-- A notice (R170, R166). -/
def takeNotice (s : State) : State :=
  if !isRunning s || s.regs.stopping then s
  else if s.command.pass.isSome || s.regs.fenced.commands then
    withCommand s { s.command with rescan := true }
  else beginPass s

/-! ### The command in flight (R171) -/

/-- The write of TAKEN has reached memory; it is acknowledged by the unit's next event (log 20). -/
def ackTaken (f : InFlight) (s : State) : State :=
  if f.taken then s else putCells s (takenCells s.regs f.index)

/-- The command in flight replaced. -/
def withInFlight (s : State) (f : InFlight) : State := withCommand s { s.command with inFlight := some f }

/-- The result of the command in flight is known; its final writes begin (steps 2 and 3 of R171). -/
def finish (result detail : Nat) (data : List Byte) (f : InFlight) (s : State) : State :=
  withInFlight (ackTaken f s) { f with taken := true, phase := .finishing result detail data }

/-- The result OK without result data. -/
def finishOk (f : InFlight) (s : State) : State := finish resultOk 0 (resultData []) f s

/-- The command goes on reading, from now. -/
def readOn (f : InFlight) (s : State) : State :=
  withInFlight (ackTaken f s) { f with taken := true, since := s.clock }

/-- The command in flight if it is being performed and its kind is `kind`: the command's own
event finds it so, or changes nothing (log 1, log 37). -/
def performing (kind : Nat) (s : State) : Option InFlight :=
  match s.command.inFlight with
  | some f => if f.phase = .performing ∧ recordKind f.record = kind then some f else none
  | none => none

/-- An event of the command in flight: `body` applied to it when it is being performed with that
kind, else no change (log 1). -/
def perform (kind : Nat) (body : InFlight → State → State) (s : State) : State :=
  match performing kind s with
  | some f => body f s
  | none => s

/-- The command in flight becomes absent and its stream is fenced if a failure of its own asked
for it (R172); the pass goes on or ends. -/
def releaseCommand (f : InFlight) (s : State) : State :=
  let s' := withCommand (markTaken f.index s) { (markTaken f.index s).command with inFlight := none }
  advance (if f.fenceAfter then fence s' .commands else s')

end Sys2Proof.Machine
end

