-- ==== Sys2Proof/Machine/PenChannel.lean ====
section
/-! DEFINITION. The Pen Channel (chapter 5): taking a sample, leaving range, the expiries and the
closing of the channel. The functions work on the channel and give the samples and events it
hands over; `handPen` hands them on as the run state has it (R104, R106). -/

namespace Sys2Proof.Machine

/-- What an event of the channel leaves: the channel, and the samples and events in order. -/
structure PenStep where
  channel : PenChannel
  samples : List PenSample
  events  : List Event
  deriving DecidableEq, Repr

/-- A PEN_BUTTON event (R106, Table 8-7): edge 1 PRESSED, 2 RELEASED. -/
def buttonEvent (button : Nat) (pressed : Bool) (t : Time) : Event :=
  { kind := .penButton, type := button, fingers := 0, outcome := if pressed then 1 else 2, inst := 0, steps := 0
    dx := 0, dy := 0, span := 0, time := t }

/-- The events of the held buttons moving to new values, button 1 first (R106). -/
def buttonEdges (c : PenChannel) (b1 b2 : Bool) (t : Time) : List Event :=
  (if c.button1 = b1 then [] else [buttonEvent 1 b1 t]) ++ (if c.button2 = b2 then [] else [buttonEvent 2 b2 t])

/-- The tool a link record names; R93 has refused the other codes. -/
def toolOf : ToolCode → Tool
  | .eraser => .eraser
  | _ => .pen

/-- Whether a link record is malformed (R93). -/
def isMalformed (r : PenRecord) : Bool :=
  r.length != .exact || !r.checkOk || r.tool == .other
    || decide (r.tiltX < -90 ∨ 90 < r.tiltX) || decide (r.tiltY < -90 ∨ 90 < r.tiltY)

/-- The state an in-range sample leaves, with its tip flags TIP_DOWN and TIP_UP (R95, R96, R100);
`changed` says that the tool differs from the channel's. -/
def tipTransition (q : PenParams) (before : PenState) (changed : Bool) (pressure : Nat) : PenState × Bool × Bool :=
  match before with
  | .touch =>
    if changed then (.hover, false, false)
    else if pressure < q.tipOff then (.hover, false, true) else (.touch, false, false)
  | _ => if q.tipOn ≤ pressure then (.touch, true, false) else (.hover, false, false)

/-- An in-range sample taken (R95, R96, R100, R102, R103, R105, R106). -/
def takeInRange (q : PenParams) (bank : BankId) (r : PenRecord) (t : Time) (c : PenChannel) : PenStep :=
  let m := mapPoint q.mapping ⟨r.x.toNat, r.y.toNat⟩
  let tiltX := limitTo (-60) 60 r.tiltX
  let tiltY := limitTo (-60) 60 r.tiltY
  let clamped := m.2 || decide (tiltX ≠ r.tiltX) || decide (tiltY ≠ r.tiltY)
  let tool := toolOf r.tool
  let flip := c.state == .touch && tool != c.tool
  let tip := tipTransition q c.state flip r.pressure.toNat
  let base : PenSample :=
    { state := tip.1, tool := tool, button1 := r.button1, button2 := r.button2, pos := m.1, bank := bank
      pressure := if tip.1 = .touch then pressureCurve q r.pressure.toNat else 0
      tiltX := tiltX, tiltY := tiltY, hover := r.hover
      flags := { noPenFlags with
        enteredRange := c.state == .away, tipDown := tip.2.1, tipUp := tip.2.2, clamped := clamped }
      time := t }
  let lift : PenSample :=
    { base with
      state := .hover, tool := c.tool, button1 := c.button1, button2 := c.button2, pressure := 0
      flags := { noPenFlags with tipUp := true, clamped := clamped } }
  { channel :=
      { c with
        state := tip.1
        last := some { pos := m.1, bank := bank, tiltX := tiltX, tiltY := tiltY, hover := r.hover, tool := tool
                       button1 := r.button1, button2 := r.button2, time := t, clamped := clamped }
        tool := tool
        button1 := r.button1
        button2 := r.button2
        timeout := some (later t q.timeout)
        linger := none
        guardOn := true
        count := if c.state = .away then c.count + 1 else c.count
        lastPos := some (m.1, bank) }
    samples := if flip then [lift, base] else [base]
    events := buttonEdges c r.button1 r.button2 t }

/-- A sample that repeats the last one in LINGER (R97, R98, R107); none without a last sample. -/
def repeatSample (c : PenChannel) (t : Time) (timedOut clamped : Bool) : List PenSample :=
  match c.last with
  | none => []
  | some l =>
    [{ state := .linger, tool := c.tool, button1 := false, button2 := false, pos := l.pos, bank := l.bank
       pressure := 0, tiltX := l.tiltX, tiltY := l.tiltY, hover := l.hover
       flags := { noPenFlags with
         tipUp := c.state == .touch, leftRange := true, timedOut := timedOut, clamped := clamped && l.clamped }
       time := t }]

/-- The linger deadline's expiry (R99): AWAY with the guard OFF. -/
def expireLinger (now : Time) (c : PenChannel) : PenChannel :=
  match c.linger with
  | some d => if reached now d then { c with state := .away, linger := none, guardOn := false } else c
  | none => c

/-- The pen leaves range from HOVER or TOUCH (R97, R98), buttons released first (R106). A linger
deadline already reached expires at once, after the handover (R99). -/
def leaveRange (q : PenParams) (t now : Time) (timedOut : Bool) (c : PenChannel) : PenStep :=
  { channel := expireLinger now
      { c with
        state := .linger, button1 := false, button2 := false, timeout := none
        linger := some (later t q.linger) }
    samples := repeatSample c t timedOut (!timedOut)
    events := buttonEdges c false false t }

/-- Whether the pen is in HOVER or TOUCH. -/
def penInRange (c : PenChannel) : Bool := c.state == .hover || c.state == .touch

/-- A sample taken (R94 to R102). -/
def takeSample (q : PenParams) (bank : BankId) (r : PenRecord) (t : Time) (c : PenChannel) : PenStep :=
  if r.inRange then takeInRange q bank r t c
  else if penInRange c then leaveRange q t t false c
  else { channel := c, samples := [], events := [] }

/-- The channel closes (R107): a closing sample and button events from HOVER or TOUCH, for the
caller that hands them over; then AWAY, guard OFF, buttons released, no deadline. -/
def closeChannel (t : Time) (c : PenChannel) : PenStep :=
  { channel :=
      { c with
        state := .away, isOpen := false, button1 := false, button2 := false, timeout := none, linger := none
        guardOn := false }
    samples := if penInRange c then repeatSample c t false false else []
    events := if penInRange c then buttonEdges c false false t else [] }

/-- Hands a step's events and samples to the Publisher in RUNNING, and to nobody otherwise (R104,
R106). -/
def handPen (s : State) (p : PenStep) : State :=
  let s' := { s with pen := p.channel }
  if s.regs.state = .running then handSamples (handEvents s' p.events) p.samples else s'

/-- The channel closed with nothing handed over (R107: WAKE, RUN cleared, HALTED). -/
def closeSilently (s : State) : State := { s with pen := (closeChannel s.clock s.pen).channel }

/-- The open marker follows the screen's state (R107): open in ACTIVE and WATCH. -/
def openChannel (s : State) : State := { s with pen := { s.pen with isOpen := true } }

end Sys2Proof.Machine
end

