-- ==== Sys2Proof/Machine/Commands.lean ====
section
/-! DEFINITION. The command list: COMMAND_EXAMINATION, the eleven commands of Table 8-12 and
COMMAND_COMPLETION (R144, R145, R151 to R158, R62, R89, R170 to R174, R190, R193). -/

namespace Sys2Proof.Machine

/-! ### Examination (R170, R171, R173) -/

/-- A POSTED record is taken: the command in flight, refused at once for an unknown kind or an
argument outside its set of codes (R171, R173; log 21). -/
def takeCommand (record : BitVec 512) (p : Pass) (s : State) : State :=
  let f : InFlight :=
    { index := p.index, record := record, phase := .performing, taken := false, snapshot := [], fenceAfter := false
      since := s.clock }
  if knownKind (recordKind record) then
    match badArgument record with
    | some at_ => withInFlight s { f with phase := .finishing resultBadValue at_ (resultData []) }
    | none => withInFlight s f
  else withInFlight s { f with phase := .finishing resultUnknownKind 0 (resultData []) }

/-- A record read by the pass (R168, R170). -/
def examine (record : BitVec 512) (s : State) : State :=
  match s.command.pass, s.command.inFlight with
  | some p, none => if numAt record 0 = 1 then takeCommand record p s else advance s
  | _, _ => s

/-- COMMAND_EXAMINATION (R170). -/
def execCommandExamination (record : BitVec 512) (s : State) : Host.Outcome State Fault Refusal :=
  .next (examine record s)

/-! ### LOAD_BANK (R151 to R154) -/

/-- Whether `size` bytes from an offset lie in the configuration space, the offset being a multiple
of 8 (R151, R156, R174). -/
def offsetValid (offset size : Nat) : Bool :=
  decide (offset % 8 = 0 ∧ Config.configFirst ≤ offset ∧ offset < Config.configEnd ∧ offset + size ≤ Config.configEnd)

/-- The Posture Unit's staging copy replaced. -/
def withStaging (g : Option Staging) (s : State) : State := { s with posture := { s.posture with staging := g } }

/-- OK, or OK_ADJUSTED when a count is not 0 (R153, R156). -/
def adjustedResult (a b : Nat) : Nat := if a = 0 ∧ b = 0 then resultOk else resultAdjusted

/-- Every entry has been applied: the check of R153, then the refusal or the replacement. -/
def concludeBank (i : BankId) (g : Staging) (f : InFlight) (s : State) : State :=
  let s' := withStaging none s
  match structureFault g.bank with
  | some d => finish resultBadStructure d (bankCounts g.skipped g.clamped) f s'
  | none =>
    finish (adjustedResult g.skipped g.clamped) 0 (bankCounts g.skipped g.clamped) f
      { s' with posture := withBank s'.posture i g.bank }

/-- Entries read and applied in list order; the load concludes with the last of them, else the
command reads on (R151, R152; log 19). -/
def applyEntries (i : BankId) (g : Staging) (entries : List (BitVec 64)) (f : InFlight) (s : State) : State :=
  let g' := (entries.take (g.count - g.applied)).foldl applyEntry g
  if g'.count ≤ g'.applied then concludeBank i g' f s else readOn f (withStaging (some g') s)

/-- The list's head read (R151 steps 3 to 5), with the entries read after it. -/
def readHead (i : BankId) (offset : Nat) (head : BitVec 64) (entries : List (BitVec 64)) (f : InFlight)
    (s : State) : State :=
  let count := (word32At head 0).toNat
  if count = 0 ∨ 120 < count then finish resultBadStructure 1 (bankCounts 0 0) f s
  else if Config.configEnd < offset + 8 + 8 * count then finish resultBadOffset 0 (bankCounts 0 0) f s
  else applyEntries i { bank := bankOf s.posture i, count := count, applied := 0, skipped := 0, clamped := 0 } entries f s

/-- LOAD_BANK performed on list data read (R151). -/
def loadBank (data : List (BitVec 64)) (f : InFlight) (s : State) : State :=
  let i := bankOfCode (numAt f.record 4)
  let offset := recordOffset f.record
  match s.posture.staging with
  | some g => applyEntries i g data f s
  | none =>
    if !offsetValid offset 8 then finish resultBadOffset 0 (bankCounts 0 0) f s
    else
      match data with
      | [] => s
      | head :: entries => readHead i offset head entries f s

/-- LOAD_BANK (R151 to R154). -/
def execLoadBank (data : List (BitVec 64)) (s : State) : Host.Outcome State Fault Refusal :=
  .next (perform 1 (loadBank data) s)

/-! ### LOAD_ZONES (R156) -/

/-- A surface's zone table replaced, places at and above the count being not present. -/
def putZones (sf : Surface) (count : Nat) (places : List (Option Zone)) (s : State) : State :=
  let u := surfaceOf s sf
  withSurface s sf { u with
    zones := { count := count, places := places ++ List.replicate (16 - places.length) none } }

/-- The zone records read so far replaced. -/
def withZoneStaging (g : Option ZoneStaging) (s : State) : State :=
  { s with posture := { s.posture with zoneStaging := g } }

/-- Every zone record has been read: the table is replaced in one step. -/
def concludeZones (sf : Surface) (count : Nat) (g : ZoneStaging) (f : InFlight) (s : State) : State :=
  finish (adjustedResult g.clamped g.dropped) 0 (zoneCounts g.clamped g.dropped) f
    (putZones sf count g.places (withZoneStaging none s))

/-- The mapping of a surface in bank A (R156). -/
def zoneMapping (s : State) (sf : Surface) : MapParams :=
  match sf with
  | .pad => s.posture.bankA.pad.mapping
  | .screen => s.posture.bankA.screen.mapping

/-- Zone records read in order from the next place on. -/
def applyZones (sf : Surface) (count : Nat) (records : List (BitVec 128)) (f : InFlight) (s : State) : State :=
  let m := zoneMapping s sf
  let g := s.posture.zoneStaging.getD { places := [], clamped := 0, dropped := 0 }
  let g' := (records.take (count - g.places.length)).foldl (applyZone (outRangeX m) (outRangeY m)) g
  if count ≤ g'.places.length then concludeZones sf count g' f s
  else readOn f (withZoneStaging (some g') s)

/-- LOAD_ZONES performed on zone records read (R156). -/
def loadZones (records : List (BitVec 128)) (f : InFlight) (s : State) : State :=
  let sf := surfaceOfCode (numAt f.record 4)
  let count := numAt f.record 5
  if count ≠ 0 ∧ offsetValid (recordOffset f.record) (16 * count) = false then
    finish resultBadOffset 0 (zoneCounts 0 0) f s
  else applyZones sf count records f s

/-- LOAD_ZONES (R156). -/
def execLoadZones (records : List (BitVec 128)) (s : State) : Host.Outcome State Fault Refusal :=
  .next (perform 2 (loadZones records) s)

/-! ### Settings (R144, R145, R157, R158, R89, R62) -/

/-- SET_POSTURE_MAP performed (R145). -/
def setPostureMap (f : InFlight) (s : State) : State :=
  finishOk f { s with posture := { s.posture with map := mapOfRecord f.record } }

/-- SET_POSTURE_MAP (R145). -/
def execSetPostureMap (s : State) : Host.Outcome State Fault Refusal := .next (perform 3 setPostureMap s)

/-- POSTURE_CHANGED (R144, Table 8-7). -/
def postureEvent (old new : Posture) (t : Time) : Event :=
  { kind := .postureChanged, type := postureCode old, fingers := 0, outcome := postureCode new, inst := 0, steps := 0
    dx := 0, dy := 0, span := 0, time := t }

/-- SET_POSTURE performed (R144). -/
def setPosture (f : InFlight) (s : State) : State :=
  let p := postureOfCode (numAt f.record 4)
  if p = s.posture.posture then finishOk f s
  else
    finishOk f (handEvents { s with posture := { s.posture with posture := p } }
      [postureEvent s.posture.posture p s.clock])

/-- SET_POSTURE (R144). -/
def execSetPosture (s : State) : Host.Outcome State Fault Refusal := .next (perform 4 setPosture s)

/-- SET_SURFACE performed (R89): the screen's enable goes into the saved copy while a suspension is
applied. -/
def setSurface (f : InFlight) (s : State) : State :=
  let on := numAt f.record 5 == 1
  finishOk f
    (match surfaceOfCode (numAt f.record 4) with
     | .pad => { s with pad := { s.pad with enable := on } }
     | .screen =>
       if s.suspension.applied then { s with suspension := { s.suspension with saved := on } }
       else { s with screen := { s.screen with enable := on } })

/-- SET_SURFACE (R89). -/
def execSetSurface (s : State) : Host.Outcome State Fault Refusal := .next (perform 5 setSurface s)

/-- SET_HAND performed (R157). -/
def setHand (f : InFlight) (s : State) : State :=
  finishOk f { s with posture := { s.posture with hand := handOfCode (numAt f.record 4) } }

/-- SET_HAND (R157). -/
def execSetHand (s : State) : Host.Outcome State Fault Refusal := .next (perform 6 setHand s)

/-- SET_PUBLISH performed (R158). -/
def setPublish (f : InFlight) (s : State) : State :=
  let i := bankOfCode (numAt f.record 4)
  let b := bankOf s.posture i
  let b' := { b with shared := { b.shared with
    publishPalms := numAt f.record 5 == 1, publishIdle := numAt f.record 6 == 1 } }
  finishOk f { s with posture := withBank s.posture i b' }

/-- SET_PUBLISH (R158). -/
def execSetPublish (s : State) : Host.Outcome State Fault Refusal := .next (perform 7 setPublish s)

/-- CLEAR_TRACKING performed (R62). -/
def clearTracking (f : InFlight) (s : State) : State :=
  let sf := surfaceOfCode (numAt f.record 4)
  finishOk f (withSurface s sf { surfaceOf s sf with clearReq := true })

/-- CLEAR_TRACKING (R62). -/
def execClearTracking (s : State) : Host.Outcome State Fault Refusal := .next (perform 8 clearTracking s)

/-! ### SLEEP and WAKE (R190, R193) -/

/-- A surface at SLEEP taken in RUNNING (R190, R191, R61). -/
def sleepSurface (u : SurfaceUnit) : SurfaceUnit :=
  if u.state = .settling ∨ u.state = .active then { u with state := .watch, sleepClose := true, wakeRun := 0 }
  else { u with wakeRun := 0 }

/-- The doze begins (R190); the Pen Channel is open while the screen is in WATCH (R107). -/
def beginDoze (s : State) : State :=
  let s' :=
    { s with
      regs := { s.regs with state := .doze }
      pad := sleepSurface s.pad
      screen := sleepSurface s.screen
      wakeReported := false }
  if s'.screen.state = .watch then openChannel s' else s'

/-- SLEEP performed (R190). -/
def sleep (f : InFlight) (s : State) : State :=
  finishOk f (if s.regs.state = .running ∧ s.regs.stopping = false then beginDoze s else s)

/-- SLEEP (R190). -/
def execSleep (s : State) : Host.Outcome State Fault Refusal := .next (perform 9 sleep s)

/-- A WATCH frame under way when DOZE ends is discarded when it reaches the watch (R191; log 36). -/
def staleWork (p : InProcess) : InProcess :=
  match p.start with
  | some st => if st.work = .watch then { p with start := some { st with work := .staleWatch } } else p
  | none => p

/-- A surface at WAKE taken in DOZE (R193). -/
def wakeSurface (active : Bool) (u : SurfaceUnit) : SurfaceUnit :=
  let u' := { u with wakeRun := 0, processing := u.processing.map staleWork }
  if u.state = .watch ∨ u.state = .inactive then
    if active then { u' with state := .settling, settle := 0 } else { u' with state := .inactive }
  else u'

/-- The doze ends (R193); the screen leaving WATCH closes the Pen Channel without a sample (R107). -/
def endDoze (s : State) : State :=
  let e := currentEntry s.posture
  let s' := if s.screen.state = .watch then closeSilently s else s
  { s' with
    regs := { s.regs with state := .running }
    pad := wakeSurface e.padActive s.pad
    screen := wakeSurface e.screenActive s.screen }

/-- WAKE performed (R193). -/
def wake (f : InFlight) (s : State) : State :=
  finishOk f (if s.regs.state = .doze ∧ s.regs.stopping = false then endDoze s else s)

/-- WAKE (R193). -/
def execWake (s : State) : Host.Outcome State Fault Refusal := .next (perform 10 wake s)

/-! ### SNAPSHOT and completion (R174, R171) -/

/-- SNAPSHOT performed (R174): every value is copied now, and the record's writes begin. -/
def takeSnapshotRecord (f : InFlight) (s : State) : State :=
  let offset := recordOffset f.record
  if offsetValid offset 128 then
    finishOk { f with snapshot := cellsAt s.regs offset (snapshotBytes s) } s
  else finish resultBadOffset 0 (resultData []) f s

/-- SNAPSHOT (R174). -/
def execSnapshot (s : State) : Host.Outcome State Fault Refusal := .next (perform 11 takeSnapshotRecord s)

/-- The final state write has succeeded (step 4 of R171): every write of the command has reached
memory, COMMAND is set, and the command in flight becomes absent. -/
def complete (s : State) : State :=
  match s.command.inFlight with
  | some f =>
    match f.phase with
    | .finishing result detail data =>
      let written := putCells (ackTaken f s) (f.snapshot ++ finalCells s.regs f.index result detail data)
      releaseCommand f (setCause written .command)
    | .performing => s
  | none => s

/-- COMMAND_COMPLETION (R171). -/
def execCommandCompletion (s : State) : Host.Outcome State Fault Refusal := .next (complete s)

end Sys2Proof.Machine
end

