-- ==== Sys2Proof/Machine/Frames.lean ====
section
/-! DEFINITION. The frames of a surface: FRAME_START (R13, R14, R63, R70, R88, R114, R147) and
FRAME_PROCESSING_END (R7, R15 to R23, R47, R71, R113, R57, R58, R191). -/

namespace Sys2Proof.Machine

/-! ### Surfaces changed in place -/

/-- A surface's unit changed by a function. -/
def updateSurface (s : State) (sf : Surface) (g : SurfaceUnit → SurfaceUnit) : State :=
  withSurface s sf (g (surfaceOf s sf))

/-- The gesture state ended with an outcome at a pad frame start, its event handed over (R130,
R131); the screen has none. -/
def endPadGestures (s : State) (sf : Surface) (o : EndOutcome) (t : Time) : State :=
  match sf with
  | .pad =>
    let g := endGestures o t s.gestures
    handEvents { s with gestures := g.1 } g.2
  | .screen => s

/-! ### The frame start (R13, R63, R70, R88) -/

/-- The frame parameter snapshot (R13): in WATCH the bank in force, else the entry of the current
posture. -/
def takeSnapshot (s : State) (sf : Surface) : Snapshot :=
  let u := surfaceOf s sf
  let e := currentEntry s.posture
  let bank := if u.state = .watch then u.bankInForce else e.bank
  { bank := bank, active := activityOf e sf, values := bankOf s.posture bank }

/-- A pending clear request is consumed (R63, R131). -/
def consumeClear (t : Time) (sf : Surface) (s : State) : State :=
  if (surfaceOf s sf).clearReq then
    endPadGestures (updateSurface s sf fun u => endTable { u with clearReq := false }) sf .cleared t
  else s

/-- The suspension step (R88), at every screen frame start. -/
def suspensionStep (snap : Snapshot) (s : State) : State :=
  let near := s.pen.guardOn && snap.values.screenOnly.suspendAll
  if !s.suspension.applied && near then
    { s with
      suspension := { s.suspension with saved := s.screen.enable, applied := true }
      screen := { s.screen with enable := false } }
  else if s.suspension.applied && !near then
    { s with
      suspension := { s.suspension with applied := false }
      screen := { s.screen with enable := s.suspension.saved } }
  else s

/-- The frame view of a pad frame (R70). -/
def padView (s : State) : FrameView :=
  { enable := s.pad.enable, typing := s.inputs.typing.isSome, guardOn := false, guardCount := 0, penPos := none
    newlySeen := false, hand := s.posture.hand, suspended := false }

/-- The frame view of a screen frame, after the suspension step (R70, R91). -/
def screenView (s : State) : FrameView :=
  { enable := s.screen.enable, typing := false, guardOn := s.pen.guardOn, guardCount := s.pen.count
    penPos := s.pen.lastPos.map fun q => q.1
    newlySeen := s.pen.count != s.suspension.seen
    hand := s.posture.hand, suspended := s.suspension.applied }

/-- The classifier takes its frame view; on the screen after the suspension step, with the last
activation count seen brought up to date (R70). -/
def takeView (sf : Surface) (snap : Snapshot) (s : State) : FrameView × State :=
  match sf with
  | .pad => (padView s, s)
  | .screen =>
    let s' := suspensionStep snap s
    (screenView s', { s' with suspension := { s'.suspension with seen := s'.pen.count } })

/-- The frame flags of a handover (R57, R91). -/
def handoverFlags (sf : Surface) (v : FrameView) (blobsDropped tableFull : Bool) : FrameFlags :=
  { blobsDropped, tableFull
    penSuspended := sf == .screen && v.suspended
    typingGuard := sf == .pad && v.typing
    lostEnds := false }

/-- Contacts as the entries of a handover, in creation order (R57). -/
def handoverOf (sf : Surface) (snap : Snapshot) (t : Time) (flags : FrameFlags) (c : BitVec 32)
    (contacts : List Contact) : Handover :=
  let m := (sectionOf sf snap.values).mapping
  { entries := (byCreation c contacts).map entryOf
    time := t
    bank := snap.bank
    palms := snap.values.shared.publishPalms
    idle := snap.values.shared.publishIdle
    rangeX := outRangeX m
    rangeY := outRangeY m
    flags := flags }

/-- The closing list handed over as a frame's result, limited to the snapshot's output range
(R60, R61, R63, R148), and emptied (R58). -/
def handClosing (sf : Surface) (snap : Snapshot) (v : FrameView) (t : Time) (s : State) : State :=
  let u := surfaceOf s sf
  let closing := u.closing.map (limitClosing (sectionOf sf snap.values).mapping)
  handFrame (withSurface s sf { u with closing := [] }) sf
    (handoverOf sf snap t (handoverFlags sf v false false) u.created closing)

/-- A closing list that the frame start filled is handed over when the frame itself goes on to no
tracking (R61, R63; log 12). -/
def handClosingIfAny (sf : Surface) (snap : Snapshot) (v : FrameView) (t : Time) (s : State) : State :=
  if (surfaceOf s sf).closing.isEmpty then s else handClosing sf snap v t s

/-- The first frame start after SLEEP (R61, R114). -/
def closeAfterSleep (t : Time) (sf : Surface) (s : State) : State :=
  if (surfaceOf s sf).sleepClose then
    endPadGestures (updateSurface s sf fun u => endTable { u with sleepClose := false }) sf .postureCancelled t
  else s

/-- The work of the frame in processing set, with what its start leaves. -/
def setWork (sf : Surface) (snap : Snapshot) (v : FrameView) (w : FrameWork) (s : State) : State :=
  updateSurface s sf fun u =>
    match u.processing with
    | some p => { u with processing := some { p with start := some { snap := snap, view := v, work := w, zones := u.zones } } }
    | none => u

/-! ### Outcomes (R11, R14, Table 1-5) -/

/-- A frame discarded at its start; a closing list goes out as its result. -/
def startDiscard (sf : Surface) (snap : Snapshot) (v : FrameView) (t : Time) (s : State) : State :=
  setWork sf snap v .discard (handClosingIfAny sf snap v t s)

/-- The floor at a pad frame start that goes on to tracking (R114 step 3, R129, R135). -/
def padFloor (sf : Surface) (snap : Snapshot) (t : Time) (s : State) : State :=
  match sf with
  | .pad =>
    let g := applyFloor snap.values.padOnly.gestureFloor t s.gestures
    handEvents { s with gestures := g.1 } g.2
  | .screen => s

/-- A frame that goes on to extraction and tracking. -/
def startTrack (sf : Surface) (snap : Snapshot) (v : FrameView) (t : Time) (s : State) : State :=
  setWork sf snap v .track (padFloor sf snap t s)

/-- The screen opens the Pen Channel when it enters ACTIVE (R107). -/
def openPen (sf : Surface) (s : State) : State :=
  match sf with
  | .pad => s
  | .screen => openChannel s

/-- The screen closes the Pen Channel when it leaves ACTIVE at a frame start (R107). -/
def closePen (sf : Surface) (s : State) : State :=
  match sf with
  | .pad => s
  | .screen => handPen s (closeChannel s.clock s.pen)

/-- A settling frame whose snapshot shows the surface active (R11, R14). -/
def startSettling (sf : Surface) (snap : Snapshot) (v : FrameView) (t : Time) (s : State) : State :=
  let s' := updateSurface s sf fun u => { u with bankInForce := snap.bank }
  let u := surfaceOf s' sf
  if u.settle < (sectionOf sf snap.values).settleFrames then
    startDiscard sf snap v t (updateSurface s' sf fun u =>
      { u with
        settle := u.settle + 1
        counters := { u.counters with settleDiscards := bump16 u.counters.settleDiscards } })
  else
    startTrack sf snap v t (openPen sf (updateSurface s' sf fun u => { u with state := .active }))

/-- A deactivation (R147, R60): the table and the gesture state end, the closing list is the
frame's result, and the surface becomes INACTIVE. -/
def startDeactivation (sf : Surface) (snap : Snapshot) (v : FrameView) (t : Time) (s : State) : State :=
  let ended := endPadGestures (updateSurface s sf endTable) sf .postureCancelled t
  let handed := handClosing sf snap v t ended
  setWork sf snap v .discard (closePen sf (updateSurface handed sf fun u =>
    { u with state := .inactive, bankInForce := snap.bank }))

/-- A bank change (R147): the table and the gesture state end, and the frame is tracked under the
new bank. -/
def startBankChange (sf : Surface) (snap : Snapshot) (v : FrameView) (t : Time) (s : State) : State :=
  let ended := endPadGestures (updateSurface s sf endTable) sf .postureCancelled t
  startTrack sf snap v t (updateSurface ended sf fun u => { u with bankInForce := snap.bank })

/-- The outcome of a frame start in RUNNING (Table 1-5). -/
def outcomeRunning (sf : Surface) (snap : Snapshot) (v : FrameView) (t : Time) (s : State) : State :=
  let u := surfaceOf s sf
  match u.state with
  | .inactive =>
    if snap.active then
      startSettling sf snap v t (updateSurface s sf fun u => { u with state := .settling, settle := 0 })
    else startDiscard sf snap v t s
  | .settling =>
    if snap.active then startSettling sf snap v t s
    else startDiscard sf snap v t (updateSurface s sf fun u => { u with state := .inactive, bankInForce := snap.bank })
  | .active =>
    if !snap.active then startDeactivation sf snap v t s
    else if snap.bank = u.bankInForce then startTrack sf snap v t s
    else startBankChange sf snap v t s
  | .watch => startDiscard sf snap v t s

/-- The outcome of a frame start in DOZE: only a WATCH frame goes on (R14; log 11). -/
def outcomeDoze (sf : Surface) (snap : Snapshot) (v : FrameView) (t : Time) (s : State) : State :=
  if (surfaceOf s sf).state = .watch then setWork sf snap v .watch (handClosingIfAny sf snap v t s)
  else startDiscard sf snap v t s

/-- A frame's start (R13, R14): snapshot, clear request, frame view, the first start after SLEEP,
outcome. -/
def startFrame (sf : Surface) (t : Time) (s : State) : State :=
  let snap := takeSnapshot s sf
  let q := takeView sf snap (consumeClear t sf s)
  let s' := closeAfterSleep t sf q.2
  if s.regs.state = .doze then outcomeDoze sf snap q.1 t s' else outcomeRunning sf snap q.1 t s'

/-- FRAME_START: the frame in the processing place begins, in RUNNING or DOZE. -/
def execFrameStart (sf : Surface) (s : State) : Host.Outcome State Fault Refusal :=
  if isRunning s then
    match (surfaceOf s sf).processing with
    | some { frame := f, start := none } => .next (startFrame sf f.time s)
    | _ => .next s
  else .next s

/-! ### The end of processing -/

/-- The counters of a tracked frame's extraction, creation and classification. -/
def countTracked (dropped refused : Nat) (r : Classification) (k : SurfaceCounters) : SurfaceCounters :=
  { k with
    blobsDropped := satAdd 65535 k.blobsDropped dropped
    tableFull := satAdd 65535 k.tableFull refused
    confirmed := satAdd 65535 k.confirmed r.confirmed.length
    rejected := satAdd 65535 k.rejected r.rejected
    retractions := satAdd 65535 k.retractions r.retracted.length }

/-- The Gesture Engine's frame work on a tracked pad frame (R111, R113), its events handed over;
the screen has none. -/
def padGestures (sf : Surface) (st : FrameStart) (frame : Frame) (r : Classification) (table : List Contact)
    (s : State) : State :=
  match sf with
  | .pad =>
    let g := gestureFrame
      { contacts := table, confirmed := r.confirmed, retracted := r.retracted
        params := st.snap.values.padOnly, typing := st.view.typing, time := frame.time } s.clock s.gestures
    handEvents { s with gestures := g.1 } g.2
  | .screen => s

/-- A tracked frame: extraction, tracking, classification, gestures, handover and release. -/
def trackFrame (sf : Surface) (st : FrameStart) (frame : Frame) (s : State) : State :=
  let u := surfaceOf s sf
  let p := sectionOf sf st.snap.values
  let blobs := extractOn sf p frame.cells
  let made := trackTable sf p u.zones frame blobs.1 (u.closing.map (·.id) ++ pendingIds u.publisher) u
  let r := classifyTable sf st.snap.values st.view (byCreation made.created made.table)
  let table := r.table.map updateDisplacement
  let closing := u.closing.map (limitClosing p.mapping)
  let s' := withSurface s sf
    { u with
      table := table
      idPointer := made.pointer
      created := made.created
      counters := countTracked blobs.2 made.refused r u.counters }
  let handed := handFrame (padGestures sf st frame r table s') sf
    (handoverOf sf st.snap frame.time
      (handoverFlags sf st.view (decide (0 < blobs.2)) (decide (0 < made.refused))) made.created (closing ++ table))
  updateSurface handed sf releaseEnded

/-- Whether some kept blob of a WATCH frame lies in a present WAKE zone below the zone count
(R191). -/
def isWakeFrame (p : SurfaceParams) (zones : ZoneTable) (blobs : List Blob) : Bool :=
  blobs.any fun b => (zones.places.take zones.count).any fun z =>
    match z with
    | some z => z.flags.wake && inZone z (mapPoint p.mapping b.centroid).1
    | none => false

/-- The WAKE event (R192). -/
def wakeEvent (type fingers : Nat) (t : Time) : Event :=
  { kind := .wake, type := type, fingers := fingers, outcome := 0, inst := 0, steps := 0, dx := 0, dy := 0, span := 0
    time := t }

/-- A wake cause found: reported while the wake-reported marker is clear (R192). -/
def reportWake (type fingers : Nat) (t : Time) (s : State) : State :=
  if s.wakeReported then s
  else handEvents (setCause { s with wakeReported := true } .wake) [wakeEvent type fingers t]

/-- The surface's code in a WAKE event (Table 8-7). -/
def wakeSurfaceCode : Surface → Nat
  | .pad => 1
  | .screen => 2

/-- BLOBS_DROPPED counted for a frame extracted in WATCH (R18). -/
def countDropped (sf : Surface) (dropped : Nat) (s : State) : State :=
  updateSurface s sf fun u => { u with counters := { u.counters with blobsDropped := satAdd 65535 u.counters.blobsDropped dropped } }

/-- A WATCH frame reaches the doze watch (R191). -/
def watchFrame (sf : Surface) (st : FrameStart) (frame : Frame) (s : State) : State :=
  let p := sectionOf sf st.snap.values
  let blobs := extractOn sf p frame.cells
  let s' := countDropped sf blobs.2 s
  let woke := isWakeFrame p st.zones blobs.1
  let run := if woke then satAdd 8 (surfaceOf s' sf).wakeRun 1 else 0
  let s'' := updateSurface s' sf fun u => { u with wakeRun := run }
  if woke && decide (st.snap.values.shared.wakeFrames ≤ run) then reportWake 1 (wakeSurfaceCode sf) frame.time s''
  else s''

/-- A WATCH frame that the end of DOZE overtook: extracted, then discarded (R191). -/
def staleFrame (sf : Surface) (st : FrameStart) (frame : Frame) (s : State) : State :=
  countDropped sf (extractOn sf (sectionOf sf st.snap.values) frame.cells).2 s

/-- What a frame's processing does, by its work. DESIGN CHOICE (log 41): a frame sent to tracking that is
still in processing when SLEEP is taken has all its work done in DOZE, the pad's gesture events too, by
R61 and R190, which let it complete; R140 speaks of no such event in DOZE. -/
def processFrame (sf : Surface) (st : FrameStart) (frame : Frame) (s : State) : State :=
  match st.work with
  | .discard => s
  | .track => trackFrame sf st frame s
  | .watch => if s.regs.state = .doze then watchFrame sf st frame s else staleFrame sf st frame s
  | .staleWatch => staleFrame sf st frame s

/-- The processing place is emptied and takes the waiting frame (R7). -/
def nextFrame (u : SurfaceUnit) : SurfaceUnit :=
  { u with
    processing := u.waiting.map fun f => { frame := f, start := none }
    waiting := none }

/-- Whether the processing of a begun frame may end. DEDUCED (log 45): a frame with tracking to do waits until
the Publisher has taken, and so cut, every earlier handover of its surface, because R180 has the cut made
before the surface's next tracked frame. -/
def mayEnd (u : SurfaceUnit) (st : FrameStart) : Bool := st.work != .track || u.publisher.handed.isEmpty

/-- FRAME_PROCESSING_END (R7), with the event drain of a frame end (R182). -/
def execFrameProcessingEnd (sf : Surface) (s : State) : Host.Outcome State Fault Refusal :=
  if isRunning s then
    match (surfaceOf s sf).processing with
    | some { frame := f, start := some st } =>
      if mayEnd (surfaceOf s sf) st then .next (drainEvents (updateSurface (processFrame sf st f s) sf nextFrame))
      else .next s
    | _ => .next s
  else .next s

end Sys2Proof.Machine
end

