-- ==== Sys2Proof/Machine/PenEvents.lean ====
section
/-! DEFINITION. PEN_RECORD (R93, R94). -/

namespace Sys2Proof.Machine

/-- A malformed record (R93, R109): counted while the channel is open in RUNNING or DOZE. -/
def countMalformed (s : State) : State :=
  if isRunning s && s.pen.isOpen then { s with pen := { s.pen with linkErrors := bump16 s.pen.linkErrors } } else s

/-- A sample taken by the open channel (R94): handed over in RUNNING; in DOZE an in-range sample is
a wake cause (R191). -/
def takeRecord (r : PenRecord) (s : State) : State :=
  let s' := handPen s (takeSample (penBank s).pen s.screen.bankInForce r s.clock s.pen)
  if s.regs.state = .doze ∧ r.inRange = true then reportWake 2 0 s.clock s' else s'

/-- PEN_RECORD (R93, R94). -/
def execPenRecord (r : PenRecord) (s : State) : Host.Outcome State Fault Refusal :=
  if isMalformed r then .next (countMalformed s)
  else if isRunning s && s.pen.isOpen then .next (takeRecord r s)
  else .next s

end Sys2Proof.Machine
end

