-- ==== Sys2Proof/Machine/Deadlines.lean ====
section
/-! DEFINITION. The Clock, the KEYACT line and the expiries of the five deadlines (chapter 10,
R98, R99, R134, R139). An expiry that comes before its deadline changes nothing (log 4). -/

namespace Sys2Proof.Machine

/-- Whether a deadline is present and the Clock has reached it (R188). -/
def isDue (s : State) : Option Time → Bool
  | some d => reached s.clock d
  | none => false

/-- The pen timeout's expiry (R98). -/
def expirePenTimeout (s : State) : State :=
  handPen s (leaveRange (penBank s).pen s.clock s.clock true { s.pen with timeouts := bump16 s.pen.timeouts })

/-- PEN_TIMEOUT_EXPIRY (R98). -/
def execPenTimeoutExpiry (s : State) : Host.Outcome State Fault Refusal :=
  .next (if isDue s s.pen.timeout then expirePenTimeout s else s)

/-- LINGER_EXPIRY (R99). -/
def execLingerExpiry (s : State) : Host.Outcome State Fault Refusal :=
  .next { s with pen := expireLinger s.clock s.pen }

/-- The typing guard restarted at an edge (R189); one already reached expires at once (log 5). -/
def restartTyping (s : State) : Option Time :=
  let d := later s.clock (bankOf s.posture s.pad.bankInForce).padOnly.typingGuard
  if reached s.clock d then none else some d

/-- KEYACT_RISING_EDGE (R189): an edge only where the detector holds the line low. -/
def execKeyactRisingEdge (s : State) : Host.Outcome State Fault Refusal :=
  if s.inputs.level then .next s
  else .next { s with
    inputs := { level := true, typing := if isRunning s then restartTyping s else s.inputs.typing } }

/-- KEYACT_FALLING_EDGE (R189). -/
def execKeyactFallingEdge (s : State) : Host.Outcome State Fault Refusal :=
  .next { s with inputs := { s.inputs with level := false } }

/-- TYPING_GUARD_EXPIRY (R189). -/
def execTypingGuardExpiry (s : State) : Host.Outcome State Fault Refusal :=
  .next (if isDue s s.inputs.typing then { s with inputs := { s.inputs with typing := none } } else s)

/-- PENDING_TAP_EXPIRY (R134). -/
def execPendingTapExpiry (s : State) : Host.Outcome State Fault Refusal :=
  let g := expireTap s.clock s.gestures
  .next (handEvents { s with gestures := g.1 } g.2)

/-- DRAG_LOCK_EXPIRY (R139). -/
def execDragLockExpiry (s : State) : Host.Outcome State Fault Refusal :=
  let g := expireLock s.clock s.gestures
  .next (handEvents { s with gestures := g.1 } g.2)

/-- CLOCK_TICK (R187). -/
def execClockTick (s : State) : Host.Outcome State Fault Refusal := .next { s with clock := s.clock + 1 }

end Sys2Proof.Machine
end

