-- ==== Sys2Proof/Machine/Power.lean ====
section
/-! DEFINITION. Resets, the start and the stop (R165, R166) and the entry into HALTED (R198), each
over every block's state table. -/

namespace Sys2Proof.Machine

/-! ### Resets (R24, R187, R163, R189) -/

/-- The reset values; the image of host memory, the queue and the value last read are not the
part's to change, and the KEYACT detector takes the line's present level (log 14, log 27). DESIGN
CHOICE (log 40): of a write that the reset cuts off no byte has landed. -/
def resetTo (keyact : Bool) (s : State) : State :=
  { State.reset with
    inputs := { level := keyact, typing := none }
    area := s.area
    readData := s.readData
    pending := s.pending }

/-- POWER_ON_RESET (R24). -/
def execPowerOnReset (keyact : Bool) (s : State) : Host.Outcome State Fault Refusal := .next (resetTo keyact s)

/-- RESET_LINE (R24): the Clock and the area base are kept. -/
def execResetLine (keyact : Bool) (s : State) : Host.Outcome State Fault Refusal :=
  .next { resetTo keyact s with
    clock := s.clock
    regs := { resetRegisters with areaLo := s.regs.areaLo, areaHi := s.regs.areaHi } }

/-! ### The start (R165) -/

/-- Whether the area base is accepted: not 0, and on a 4096-byte boundary (R165). -/
def baseValid (r : Registers) : Bool := areaBase r != 0 && (areaBase r).extractLsb' 0 12 == 0

/-- A surface at RUN set (R165; Tables 1-4, 1-7, 9-1, 10-1). -/
def startSurface (e : MapEntry) (sf : Surface) (u : SurfaceUnit) : SurfaceUnit :=
  { u with
    state := if activityOf e sf then .settling else .inactive
    settle := 0
    bankInForce := e.bank
    lastNumber := none
    wakeRun := 0
    publisher := { u.publisher with index := 0, idle := false } }

/-- RUN set in OFF, or the end of a stop with RUN set (R165). -/
def tryStart (s : State) : State :=
  if baseValid s.regs then
    { s with
      regs := { s.regs with run := true, areaInvalid := false, state := .running, fenced := noFences }
      command := { s.command with scan := 0, rescan := false }
      penOut := { s.penOut with index := 0 }
      events := { s.events with position := 0, loss := false }
      pad := startSurface (currentEntry s.posture) .pad s.pad
      screen := startSurface (currentEntry s.posture) .screen s.screen
      suspension := { s.suspension with seen := s.pen.count } }
  else { s with regs := { s.regs with run := false, areaInvalid := true } }

/-- RUN written 1 outside HALTED (R161, R165). -/
def setRun (s : State) : State :=
  if s.regs.run then s
  else if s.regs.state = .off then tryStart { s with regs := { s.regs with run := true } }
  else { s with regs := { s.regs with run := true } }

/-- RUN_SET (R161, R165). -/
def execRunSet (s : State) : Host.Outcome State Fault Refusal :=
  if s.regs.state = .halted then .next s else .next (setRun s)

/-! ### The stop (R166) -/

/-- The stop begins (R166, R9): waiting frames are discarded, the rescan flag is cleared, and a
pass with no command in flight examines no further record (log 23). -/
def beginStop (s : State) : State :=
  let c := { s.command with rescan := false }
  let c' := if c.inFlight.isSome then c
            else match c.pass with
              | some p => { c with scan := scanAfter c p, pass := none }
              | none => c
  { s with
    regs := { s.regs with stopping := true }
    pad := { s.pad with waiting := none }
    screen := { s.screen with waiting := none }
    command := c' }

/-- RUN written 0 outside HALTED (R161, R166). -/
def clearRun (s : State) : State :=
  if s.regs.run then
    let s' := { s with regs := { s.regs with run := false } }
    if isRunning s && !s.regs.stopping then beginStop s' else s'
  else s

/-- RUN_CLEAR (R161, R166). -/
def execRunClear (s : State) : Host.Outcome State Fault Refusal :=
  if s.regs.state = .halted then .next s else .next (clearRun s)

/-- Whether a surface has nothing left to do in a stop: its frame in processing has ended and its
handovers have been offered (R166, R186; log 9). -/
def surfaceIdle (u : SurfaceUnit) : Bool :=
  u.processing.isNone && u.publisher.handed.isEmpty && u.publisher.access == .none

/-- Whether a stop in progress can end (R166). -/
def stopDone (s : State) : Bool :=
  isRunning s && s.regs.stopping && s.command.inFlight.isNone && surfaceIdle s.pad && surfaceIdle s.screen

/-- A surface's tracker, frame and Publisher state emptied, without handover (R64, R65, R186). -/
def emptySurface (u : SurfaceUnit) : SurfaceUnit :=
  { u with
    processing := none
    waiting := none
    state := .inactive
    table := []
    closing := []
    clearReq := false
    sleepClose := false
    wakeRun := 0
    publisher := { u.publisher with pending := none, shown := [], handed := [], access := .none } }

/-- A surface at the end of a stop: its idle marker is clear too (Table 9-1). -/
def stopSurface (u : SurfaceUnit) : SurfaceUnit :=
  let e := emptySurface u
  { e with publisher := { e.publisher with idle := false } }

/-- The state after a stop, before the RUN field is looked at (R166; Tables 7-6 and 8-14 for the
staging copies and AREA_INVALID). A write of the pen or event publisher still in progress lands
nothing (log 9). DESIGN CHOICE (log 42): the pen samples and events that still wait in `handed` for such
an access are discarded untaken, without a count in COALESCED or EVENTS_LOST. -/
def stopped (s : State) : State :=
  { s with
    regs := { s.regs with state := .off, stopping := false, areaInvalid := false }
    pad := stopSurface s.pad
    screen := { stopSurface s.screen with
      enable := if s.suspension.applied then s.suspension.saved else s.screen.enable }
    suspension := { s.suspension with applied := false }
    gestures := emptyGestures s.gestures.counter
    pen := (closeChannel s.clock s.pen).channel
    penOut := { s.penOut with pending := none, handed := [], access := .none }
    events := { s.events with queue := [], loss := false, handed := [], access := .none }
    inputs := { s.inputs with typing := none }
    posture := { s.posture with staging := none, zoneStaging := none }
    command := { s.command with rescan := false, pass := none }
    wakeReported := false }

/-- The stop ends; with RUN set again the part starts at once (R166). -/
def endStop (s : State) : State :=
  let t := stopped s
  if s.regs.run then tryStart t else t

/-- STOP_END (R166). -/
def execStopEnd (s : State) : Host.Outcome State Fault Refusal :=
  .next (if stopDone s then endStop s else s)

/-! ### HALTED (R198) -/

/-- A surface on entry to HALTED (R4, R9, R65). -/
def haltSurface (u : SurfaceUnit) : SurfaceUnit := { emptySurface u with decoder := .idle }

/-- The record of the command in flight reads TAKEN in the image, also where no event of the command
has shown it yet (R172, step 1 of R171). -/
def showTaken (s : State) : State :=
  match s.command.inFlight with
  | some f => ackTaken f s
  | none => s

/-- The entry into HALTED: the HALTED column of every block's state table (R198). The command in
flight is abandoned with its record reading TAKEN (R172). DESIGN CHOICE (log 40): of a slot, event,
snapshot, result or fault record write in progress no byte has landed; the manual says only that the
write is abandoned (R186, R172); and what waits in the `handed` fields is discarded untaken (log 42). -/
def enterHalted (s : State) : State :=
  { s with
    area := (showTaken s).area
    regs := { s.regs with state := .halted, stopping := false }
    pad := haltSurface s.pad
    screen := haltSurface s.screen
    gestures := emptyGestures s.gestures.counter
    pen := (closeChannel s.clock s.pen).channel
    penOut := { s.penOut with pending := none, handed := [], access := .none }
    events := { s.events with queue := [], handed := [], access := .none }
    inputs := { s.inputs with typing := none }
    posture := { s.posture with staging := none, zoneStaging := none }
    command := { s.command with rescan := false, pass := none, inFlight := none }
    fault := { s.fault with write := none }
    wakeReported := false }

end Sys2Proof.Machine
end

