-- ==== Sys2Proof/Machine/Failures.lean ====
section
/-! DEFINITION. Failed accesses and the fault record (R195 to R198, R172). A failure of an access
that is not outstanding at the offset named changes nothing (log 1). -/

namespace Sys2Proof.Machine

/-! ### Publisher accesses (R178, R181, R182) -/

/-- The read of a frame slot's state byte fails (R178). -/
def failFrameRead (sf : Surface) (offset : Nat) (s : State) : State :=
  let p := (surfaceOf s sf).publisher
  match p.access with
  | .reading _ =>
    if offset = frameSlotOffset sf p.index then resumeFrames (failStream s (frameStream sf) false offset) sf else s
  | _ => s

/-- A write of a frame slot fails (R178): the bytes before it have landed, and the content offered
stays the pending frame. -/
def failFrameWrite (sf : Surface) (offset : Nat) (s : State) : State :=
  match (surfaceOf s sf).publisher.access with
  | .writing cells =>
    if writesAt (hostAddress s.regs offset) cells then
      resumeFrames (failStream (putCells s (landedBefore (hostAddress s.regs offset) cells)) (frameStream sf) true offset) sf
    else s
  | _ => s

/-- The read of a pen slot's state byte fails (R181). -/
def failPenRead (offset : Nat) (s : State) : State :=
  match s.penOut.access with
  | .reading _ =>
    if offset = Config.penSlotsAt + 64 * s.penOut.index then resumeSamples (failStream s .pen false offset) else s
  | _ => s

/-- A write of a pen slot fails (R181). -/
def failPenWrite (offset : Nat) (s : State) : State :=
  match s.penOut.access with
  | .writing cells =>
    if writesAt (hostAddress s.regs offset) cells then
      resumeSamples (failStream (putCells s (landedBefore (hostAddress s.regs offset) cells)) .pen true offset)
    else s
  | _ => s

/-- The read of an event record's kind byte fails (R182): the event on offer stays held, or is. -/
def failEventRead (offset : Nat) (s : State) : State :=
  match s.events.access with
  | .reading fresh _ =>
    if offset = Config.eventStripAt + 32 * s.events.position then
      let s' := failStream s .events false offset
      resumeEvents s' (holdFresh fresh s'.events)
    else s
  | _ => s

/-- A write of an event record fails (R182). -/
def failEventWrite (offset : Nat) (s : State) : State :=
  match s.events.access with
  | .writing fresh _ cells =>
    if writesAt (hostAddress s.regs offset) cells then
      let s' := failStream (putCells s (landedBefore (hostAddress s.regs offset) cells)) .events true offset
      resumeEvents s' (holdFresh fresh s'.events)
    else s
  | _ => s

/-! ### Command accesses (R172) -/

/-- The read of a command record fails: the record is not taken, and the pass ends. DESIGN CHOICE (log 43):
the spec gives no access size inside the 64-byte record, and the failure is taken at the record's first
offset, which the report carries. -/
def failRecordRead (offset : Nat) (s : State) : State :=
  match s.command.pass, s.command.inFlight with
  | some p, none => if offset = recordAt p.index then endPass (failStream s .commands false offset) else s
  | _, _ => s

/-- The write of TAKEN fails: the command is not performed, and the pass ends. -/
def failTaken (offset : Nat) (s : State) : State :=
  match s.command.inFlight with
  | some f =>
    if f.taken = false ∧ offset = recordAt f.index then
      let s' := failStream s .commands true offset
      endPass (withCommand s' { s'.command with inFlight := none })
    else s
  | none => s

/-- The offset of the list head, list entry or zone record that the command in flight is reading (R151,
R156); `none` when it reads nothing. DESIGN CHOICE (log 43): a failure of the read is taken at that first
offset, the spec giving no access size inside a head, an entry or a record. -/
def dataReadAt (s : State) : Option Nat :=
  match performing 1 s, performing 2 s with
  | some f, _ =>
    let offset := recordOffset f.record
    match s.posture.staging with
    | some g => some (offset + 8 + 8 * g.applied)
    | none => if offsetValid offset 8 then some offset else none
  | none, some f =>
    let offset := recordOffset f.record
    let count := numAt f.record 5
    let read := (s.posture.zoneStaging.map fun g => g.places.length).getD 0
    if offsetValid offset (16 * count) ∧ read < count then some (offset + 16 * read) else none
  | none, none => none

/-- The counts a load had reached, as result data (R173). -/
def reachedCounts (s : State) (f : InFlight) : List Byte :=
  if recordKind f.record = 1 then
    match s.posture.staging with
    | some g => bankCounts g.skipped g.clamped
    | none => bankCounts 0 0
  else
    match s.posture.zoneStaging with
    | some g => zoneCounts g.clamped g.dropped
    | none => zoneCounts 0 0

/-- A read made by the command in flight fails: refused with MEMORY_FAULT; the fence follows its
result (R172, R154, R156). The failure carries the first offset of what was read (log 43). -/
def failDataRead (offset : Nat) (s : State) : State :=
  match s.command.inFlight with
  | some f =>
    if dataReadAt s = some offset then
      finish resultMemoryFault 0 (reachedCounts s f) { f with fenceAfter := true }
        (withZoneStaging none (withStaging none (report s .commands false offset)))
    else s
  | none => s

/-- A write of the snapshot record fails: refused with MEMORY_FAULT, the bytes already written being
left (R174, R172). -/
def failSnapshotWrite (offset : Nat) (s : State) : State :=
  match s.command.inFlight with
  | some f =>
    if writesAt (hostAddress s.regs offset) f.snapshot then
      finish resultMemoryFault 0 (resultData []) { f with snapshot := [], fenceAfter := true }
        (putCells (report s .commands true offset) (landedBefore (hostAddress s.regs offset) f.snapshot))
    else s
  | none => s

/-- A final write of the command in flight fails (R172): its effect stands, no cause is set. -/
def failFinalWrite (offset : Nat) (s : State) : State :=
  match s.command.inFlight with
  | some f =>
    match f.phase with
    | .finishing result detail data =>
      let cells := finalCells s.regs f.index result detail data
      let address := hostAddress s.regs offset
      if writesAt address cells then
        let landed := putCells (ackTaken f s) (f.snapshot ++ landedBefore address cells)
        releaseCommand { f with fenceAfter := true } (report landed .commands true offset)
      else s
    | .performing => s
  | none => s

/-- A failed access (R195). -/
def failAccess (acc : Access) (offset : Nat) (s : State) : State :=
  match acc with
  | .frameSlotRead sf => failFrameRead sf offset s
  | .frameSlotWrite sf => failFrameWrite sf offset s
  | .penSlotRead => failPenRead offset s
  | .penSlotWrite => failPenWrite offset s
  | .eventKindRead => failEventRead offset s
  | .eventWrite => failEventWrite offset s
  | .recordRead => failRecordRead offset s
  | .takenWrite => failTaken offset s
  | .dataRead => failDataRead offset s
  | .snapshotWrite => failSnapshotWrite offset s
  | .finalWrite => failFinalWrite offset s

/-- ACCESS_FAILURE (R195). -/
def execAccessFailure (acc : Access) (offset : BitVec 32) (s : State) : Host.Outcome State Fault Refusal :=
  .next (failAccess acc offset.toNat s)

/-! ### READ_TIMEOUT (R195) -/

/-- When the outstanding read of an access was requested. -/
def readSince (acc : Access) (s : State) : Option Time :=
  match acc with
  | .frameSlotRead sf =>
    match (surfaceOf s sf).publisher.access with
    | .reading t => some t
    | _ => none
  | .penSlotRead =>
    match s.penOut.access with
    | .reading t => some t
    | _ => none
  | .eventKindRead =>
    match s.events.access with
    | .reading _ t => some t
    | _ => none
  | .recordRead => s.command.pass.map fun p => p.since
  | .dataRead => s.command.inFlight.map fun f => f.since
  | .frameSlotWrite _ | .penSlotWrite | .eventWrite | .takenWrite | .snapshotWrite | .finalWrite => none

/-- Whether 10,000 microseconds have passed since a read was requested. -/
def timedOut (acc : Access) (s : State) : Bool :=
  match readSince acc s with
  | some t => decide (Config.readTimeout ≤ (s.clock - t).toNat)
  | none => false

/-- READ_TIMEOUT (R195). -/
def execReadTimeout (acc : Access) (offset : BitVec 32) (s : State) : Host.Outcome State Fault Refusal :=
  .next (if timedOut acc s then failAccess acc offset.toNat s else s)

/-! ### The fault record (R196 to R198) -/

/-- A fault record write has ended: the one queued behind it begins, if there is one. -/
def nextRecordWrite (r : Registers) (again : Bool) (f : FaultUnit) : FaultUnit :=
  let f' := { f with write := none }
  if again then startRecordWrite r f' else f'

/-- A fault record write has succeeded (R196); one that a clear of FAULT overtook changes neither
the state nor the cause (R197). -/
def recordWritten (s : State) : State :=
  match s.fault.write with
  | some w =>
    let s' := putCells s w.cells
    if w.stale then { s' with fault := nextRecordWrite s.regs w.again s.fault }
    else setCause { s' with fault := nextRecordWrite s.regs w.again { s.fault with written := true } } .fault
  | none => s

/-- FAULT_RECORDED (R196). -/
def execFaultRecorded (s : State) : Host.Outcome State Fault Refusal := .next (recordWritten s)

/-- FAULT_RECORD_WRITE_FAILURE (R198). -/
def execFaultRecordWriteFailure (s : State) : Host.Outcome State Fault Refusal :=
  .next (if s.fault.write.isSome then enterHalted s else s)

end Sys2Proof.Machine
end

