-- ==== Sys2Proof/Machine/Links.lean ====
section
/-! DEFINITION. The frame links (sections 1.1 and 1.2): START_WORD, CELL_WORD, END_WORD. -/

namespace Sys2Proof.Machine

/-- Whether a surface's link errors are counted (R3). -/
def countsLinkErrors (s : State) (u : SurfaceUnit) : Bool := isRunning s && u.state != .inactive

/-- A SHORT raised (R1, R3). -/
def raiseShort (s : State) (u : SurfaceUnit) : SurfaceUnit :=
  if countsLinkErrors s u then { u with counters := { u.counters with short := bump16 u.counters.short } } else u

/-- A LONG raised (R1, R3). -/
def raiseLong (s : State) (u : SurfaceUnit) : SurfaceUnit :=
  if countsLinkErrors s u then { u with counters := { u.counters with long := bump16 u.counters.long } } else u

/-- An ORPHAN raised (R1, R3). -/
def raiseOrphan (s : State) (u : SurfaceUnit) : SurfaceUnit :=
  if countsLinkErrors s u then { u with counters := { u.counters with orphan := bump16 u.counters.orphan } } else u

/-- START(k) on a link outside HALTED (Table 1-2). -/
def startOn (s : State) (k : BitVec 8) (u : SurfaceUnit) : SurfaceUnit :=
  match u.decoder with
  | .opened _ _ => { raiseShort s u with decoder := .opened k [] }
  | _ => { u with decoder := .opened k [] }

/-- CELL(v) on a link outside HALTED (Table 1-2). -/
def cellOn (s : State) (sf : Surface) (v : BitVec 13) (u : SurfaceUnit) : SurfaceUnit :=
  match u.decoder with
  | .idle => { raiseOrphan s u with decoder := .skipping }
  | .opened k cells =>
    if cells.length < Config.cells sf then { u with decoder := .opened k (cells ++ [v.toInt]) }
    else { raiseLong s u with decoder := .skipping }
  | .skipping => u

/-- Whether a frame number does not follow the last one (R5). -/
def isGap (last : Option (BitVec 8)) (k : BitVec 8) : Bool :=
  match last with
  | some n => k != n + 1
  | none => false

/-- A frame offered to the frame places (R5, R6, R8). -/
def offerFrame (f : Frame) (u : SurfaceUnit) : SurfaceUnit :=
  let gap := isGap u.lastNumber f.number && u.state != .inactive
  let f' := { f with gap := gap }
  let u' := { u with
    lastNumber := some f.number
    counters := if gap then { u.counters with gap := bump16 u.counters.gap } else u.counters }
  match u'.processing with
  | none => { u' with processing := some { frame := f', start := none } }
  | some _ =>
    match u'.waiting with
    | none => { u' with waiting := some f' }
    | some _ =>
      { u' with
        waiting := some { f' with gap := true }
        counters := if u'.state = .inactive then u'.counters
                    else { u'.counters with overrun := bump16 u'.counters.overrun } }

/-- An accepted frame (R2, R9): dropped at the link in OFF, or in DOZE for an INACTIVE surface;
discarded during a stop; else offered. -/
def acceptFrame (s : State) (k : BitVec 8) (cells : List Int) (u : SurfaceUnit) : SurfaceUnit :=
  if s.regs.state = .off ∨ (s.regs.state = .doze ∧ u.state = .inactive) then { u with lastNumber := none }
  else if s.regs.stopping then u
  else offerFrame { number := k, time := s.clock, cells := cells, gap := false } u

/-- END on a link outside HALTED (Table 1-2). -/
def endOn (s : State) (sf : Surface) (u : SurfaceUnit) : SurfaceUnit :=
  match u.decoder with
  | .idle => { raiseOrphan s u with decoder := .skipping }
  | .opened k cells =>
    if cells.length = Config.cells sf then acceptFrame s k cells { u with decoder := .idle }
    else { raiseShort s u with decoder := .idle }
  | .skipping => u

/-- START_WORD (R1, R4). -/
def execStartWord (sf : Surface) (k : BitVec 8) (s : State) : Host.Outcome State Fault Refusal :=
  if s.regs.state = .halted then .next s else .next (withSurface s sf (startOn s k (surfaceOf s sf)))

/-- CELL_WORD (R1, R4). -/
def execCellWord (sf : Surface) (v : BitVec 13) (s : State) : Host.Outcome State Fault Refusal :=
  if s.regs.state = .halted then .next s else .next (withSurface s sf (cellOn s sf v (surfaceOf s sf)))

/-- END_WORD (R1, R2, R4). -/
def execEndWord (sf : Surface) (s : State) : Host.Outcome State Fault Refusal :=
  if s.regs.state = .halted then .next s else .next (withSurface s sf (endOn s sf (surfaceOf s sf)))

end Sys2Proof.Machine
end

