-- ==== Sys2Proof/Machine/RegisterAccess.lean ====
section
/-! DEFINITION. The host's register accesses (section 8.1, R170, R197). Writes are ignored in
HALTED (R160). -/

namespace Sys2Proof.Machine

/-- ATTN_MASK written (R161). -/
def writeMask (mask : BitVec 7) (s : State) : State := { s with regs := { s.regs with mask := mask } }

/-- The fault record re-armed (R197): a write in progress is overtaken, and one queued behind it
is cancelled. -/
def rearm (f : FaultUnit) : FaultUnit :=
  { written := false
    later := 0
    stored := none
    write := f.write.map fun w => { w with again := false, stale := true } }

/-- Every stream reopened and the fault record re-armed; the Command Unit begins a pass if its
rescan flag is set (R197, R170; log 22). -/
def reopen (s : State) : State :=
  let s' := { s with regs := { s.regs with fenced := noFences }, fault := rearm s.fault }
  if s.regs.fenced.commands && s.command.pass.isNone then takeRescan s' else s'

/-- A write to STATUS (R162, R197): the causes written 1 are cleared, and FAULT cleared while it is
set reopens the streams. -/
def clearCauses (ones : BitVec 7) (s : State) : State :=
  let s' := { s with regs := { s.regs with causes := s.regs.causes &&& ~~~ones } }
  if hasCause s.regs .fault && (ones &&& causeBit .fault != 0#7) then reopen s' else s'

/-- The cause bits of a word written to STATUS (Table 8-2). -/
def causeField (value : BitVec 32) : BitVec 7 := value.extractLsb' 8 7

/-- A write to CONTROL (R161): RUN, ATTN_MASK, NOTICE, in that order. -/
def writeControl (value : BitVec 32) (s : State) : State :=
  let run := if value.getLsbD 0 then setRun s else clearRun s
  let masked := writeMask (value.extractLsb' 8 7) run
  if value.getLsbD 1 then takeNotice masked else masked

/-- A write to the register at an offset outside HALTED (R160 to R163; log 25). -/
def writeRegister (offset : BitVec 8) (value : BitVec 32) (s : State) : State :=
  match offset.toNat with
  | 0x04 => writeControl value s
  | 0x08 => clearCauses (causeField value) s
  | 0x0C => if s.regs.state = .off then { s with regs := { s.regs with areaLo := value } } else s
  | 0x10 => if s.regs.state = .off then { s with regs := { s.regs with areaHi := value } } else s
  | _ => s

/-- NOTICE (R170). -/
def execNotice (s : State) : Host.Outcome State Fault Refusal := .next (takeNotice s)

/-- ATTN_MASK_WRITE (R161, R185). -/
def execAttnMaskWrite (mask : BitVec 7) (s : State) : Host.Outcome State Fault Refusal :=
  if s.regs.state = .halted then .next s else .next (writeMask mask s)

/-- STATUS_CAUSE_CLEAR (R162). -/
def execStatusCauseClear (value : BitVec 32) (s : State) : Host.Outcome State Fault Refusal :=
  if s.regs.state = .halted then .next s else .next (clearCauses (causeField value) s)

/-- FAULT_CLEAR (R197): 1 written to the FAULT cause alone. -/
def execFaultClear (s : State) : Host.Outcome State Fault Refusal :=
  if s.regs.state = .halted then .next s else .next (clearCauses (causeBit .fault) s)

/-- REGISTER_WRITE (R160). -/
def execRegisterWrite (offset : BitVec 8) (value : BitVec 32) (s : State) : Host.Outcome State Fault Refusal :=
  if s.regs.state = .halted then .next s else .next (writeRegister offset value s)

/-- CLOCK_LO_READ (R164). -/
def execClockLoRead (s : State) : Host.Outcome State Fault Refusal :=
  .next { s with readData := s.clock.setWidth 32, latch := s.clock.extractLsb' 32 16 }

end Sys2Proof.Machine
end

