-- ==== Sys2Proof/Machine/Slots.lean ====
section
/-! DEFINITION. The completions of the Publisher's accesses: state bytes and kind bytes read, and
records written (R178, R181, R182). A completion that no access awaits changes nothing (log 1). -/

namespace Sys2Proof.Machine

/-! ### Frame slots (R178) -/

/-- A frame slot's state byte read: FREE, and the content on offer is written; else it is the
pending frame. -/
def readFrameSlot (sf : Surface) (byte : Byte) (s : State) : State :=
  let u := surfaceOf s sf
  match u.publisher.access, u.publisher.pending with
  | .reading _, some f =>
    if byte = 0 then
      withSurface s sf { u with publisher := { u.publisher with
        access := .writing (frameSlotCells s.regs sf u.publisher.index u.publisher.count f) } }
    else resumeFrames s sf
  | _, _ => s

/-- FRAME_SLOT_STATE_READ (R178). -/
def execFrameSlotStateRead (sf : Surface) (byte : Byte) (s : State) : Host.Outcome State Fault Refusal :=
  .next (readFrameSlot sf byte s)

/-- The FULL write has succeeded: the frame is published (R178). -/
def publishFrame (sf : Surface) (s : State) : State :=
  let u := surfaceOf s sf
  match u.publisher.access with
  | .writing cells =>
    let u' := { u with publisher := { u.publisher with
      pending := none
      count := (u.publisher.count + 1) % 128
      index := (u.publisher.index + 1) % 4 } }
    resumeFrames (setCause (withSurface (putCells s cells) sf u') (frameCause sf)) sf
  | _ => s

/-- FRAME_SLOT_PUBLISHED (R178). -/
def execFrameSlotPublished (sf : Surface) (s : State) : Host.Outcome State Fault Refusal := .next (publishFrame sf s)

/-! ### Pen slots (R181) -/

/-- A pen slot's state byte read. -/
def readPenSlot (byte : Byte) (s : State) : State :=
  match s.penOut.access, s.penOut.pending with
  | .reading _, some q =>
    if byte = 0 then
      { s with penOut := { s.penOut with access := .writing (penSlotCells s.regs s.penOut.index q.1 q.2) } }
    else resumeSamples s
  | _, _ => s

/-- PEN_SLOT_STATE_READ (R181). -/
def execPenSlotStateRead (byte : Byte) (s : State) : Host.Outcome State Fault Refusal := .next (readPenSlot byte s)

/-- The FULL write of a pen slot has succeeded (R181). -/
def publishSample (s : State) : State :=
  match s.penOut.access with
  | .writing cells =>
    let s' := setCause (putCells s cells) .pen
    resumeSamples { s' with penOut := { s'.penOut with pending := none, index := (s.penOut.index + 1) % 8 } }
  | _ => s

/-- PEN_SLOT_PUBLISHED (R181). -/
def execPenSlotPublished (s : State) : Host.Outcome State Fault Refusal := .next (publishSample s)

/-! ### The event strip (R182) -/

/-- An event record's kind byte read: EMPTY, and the event on offer is written; else the drain
stops and the new event is held. -/
def readEventKind (kind : Byte) (s : State) : State :=
  let p := s.events
  match p.access with
  | .reading fresh _ =>
    match eventOnOffer p fresh with
    | some e =>
      if kind = 0 then
        { s with events := { p with access := .writing fresh p.loss (eventCells s.regs p.position e p.loss) } }
      else resumeEvents s (holdFresh fresh p)
    | none => resumeEvents s p
  | _ => s

/-- EVENT_KIND_READ (R182, R168). -/
def execEventKindRead (kind : Byte) (s : State) : Host.Outcome State Fault Refusal := .next (readEventKind kind s)

/-- The kind write of an event record has succeeded (R182, R184). -/
def publishEvent (s : State) : State :=
  match s.events.access with
  | .writing fresh loss cells => afterEventWritten (setCause (putCells s cells) .event) fresh loss
  | _ => s

/-- EVENT_PUBLISHED (R182). -/
def execEventPublished (s : State) : Host.Outcome State Fault Refusal := .next (publishEvent s)

end Sys2Proof.Machine
end

