-- ==== Sys2Proof/Machine/Dispatch.lean ====
section
/-! DEFINITION. The dispatch: one arm per command. -/

namespace Sys2Proof.Machine

def exec (i : Instr) (s : State) : Host.Outcome State Fault Refusal :=
  match i with
  | .powerOnReset level => Sys2Proof.Machine.execPowerOnReset level s
  | .resetLine level => Sys2Proof.Machine.execResetLine level s
  | .startWord sf k => Sys2Proof.Machine.execStartWord sf k s
  | .cellWord sf v => Sys2Proof.Machine.execCellWord sf v s
  | .endWord sf => Sys2Proof.Machine.execEndWord sf s
  | .frameStart sf => Sys2Proof.Machine.execFrameStart sf s
  | .frameProcessingEnd sf => Sys2Proof.Machine.execFrameProcessingEnd sf s
  | .penRecord r => Sys2Proof.Machine.execPenRecord r s
  | .penTimeoutExpiry => Sys2Proof.Machine.execPenTimeoutExpiry s
  | .lingerExpiry => Sys2Proof.Machine.execLingerExpiry s
  | .keyactRisingEdge => Sys2Proof.Machine.execKeyactRisingEdge s
  | .typingGuardExpiry => Sys2Proof.Machine.execTypingGuardExpiry s
  | .pendingTapExpiry => Sys2Proof.Machine.execPendingTapExpiry s
  | .dragLockExpiry => Sys2Proof.Machine.execDragLockExpiry s
  | .runSet => Sys2Proof.Machine.execRunSet s
  | .runClear => Sys2Proof.Machine.execRunClear s
  | .stopEnd => Sys2Proof.Machine.execStopEnd s
  | .notice => Sys2Proof.Machine.execNotice s
  | .attnMaskWrite mask => Sys2Proof.Machine.execAttnMaskWrite mask s
  | .statusCauseClear value => Sys2Proof.Machine.execStatusCauseClear value s
  | .faultClear => Sys2Proof.Machine.execFaultClear s
  | .registerWrite offset value => Sys2Proof.Machine.execRegisterWrite offset value s
  | .clockLoRead => Sys2Proof.Machine.execClockLoRead s
  | .commandExamination record => Sys2Proof.Machine.execCommandExamination record s
  | .loadBank data => Sys2Proof.Machine.execLoadBank data s
  | .loadZones records => Sys2Proof.Machine.execLoadZones records s
  | .setPostureMap => Sys2Proof.Machine.execSetPostureMap s
  | .setPosture => Sys2Proof.Machine.execSetPosture s
  | .setSurface => Sys2Proof.Machine.execSetSurface s
  | .setHand => Sys2Proof.Machine.execSetHand s
  | .setPublish => Sys2Proof.Machine.execSetPublish s
  | .clearTracking => Sys2Proof.Machine.execClearTracking s
  | .sleep => Sys2Proof.Machine.execSleep s
  | .wake => Sys2Proof.Machine.execWake s
  | .snapshot => Sys2Proof.Machine.execSnapshot s
  | .commandCompletion => Sys2Proof.Machine.execCommandCompletion s
  | .frameSlotStateRead sf byte => Sys2Proof.Machine.execFrameSlotStateRead sf byte s
  | .frameSlotPublished sf => Sys2Proof.Machine.execFrameSlotPublished sf s
  | .penSlotStateRead byte => Sys2Proof.Machine.execPenSlotStateRead byte s
  | .penSlotPublished => Sys2Proof.Machine.execPenSlotPublished s
  | .eventKindRead byte => Sys2Proof.Machine.execEventKindRead byte s
  | .eventPublished => Sys2Proof.Machine.execEventPublished s
  | .accessFailure acc offset => Sys2Proof.Machine.execAccessFailure acc offset s
  | .readTimeout acc offset => Sys2Proof.Machine.execReadTimeout acc offset s
  | .faultRecorded => Sys2Proof.Machine.execFaultRecorded s
  | .faultRecordWriteFailure => Sys2Proof.Machine.execFaultRecordWriteFailure s
  | .clockTick => Sys2Proof.Machine.execClockTick s
  | .keyactFallingEdge => Sys2Proof.Machine.execKeyactFallingEdge s

end Sys2Proof.Machine
end

