-- ==== Sys2Proof/Safety.lean ====
section
/-! DEFINITION. What counts as a safe run, in the terms claims use: the invariants of a running
part and the state of a part at rest. -/

namespace Sys2Proof

/-- A step is safe in `s` when the machine goes on: it neither faults nor refuses. -/
def Safe (s : Machine.State) : Prop := ∃ t, Machine.step s = .next t

namespace Machine

/-- The surface a surface is not. -/
def otherSurface : Surface → Surface
  | .pad => .screen
  | .screen => .pad

/-- The holding queue is within its capacity (R183). -/
def QueueBounded (s : State) : Prop := s.events.queue.length ≤ 8

/-- A surface's frame count, publish index, id pointer and wake run count lie in their ranges (R178,
R53, R191). -/
def SurfaceInRange (u : SurfaceUnit) : Prop :=
  u.publisher.index < 4 ∧ u.publisher.count < 128 ∧ 1 ≤ u.idPointer ∧ u.idPointer ≤ 63 ∧ u.wakeRun ≤ 8

/-- The publish indices, frame counts, id pointers, wake run counts, event write position, scan
position, gesture instance counter and later-fault count lie in their ranges (R178, R181, R182, R170,
R53, R123, R191, R196). -/
def PositionsInRange (s : State) : Prop :=
  SurfaceInRange s.pad ∧ SurfaceInRange s.screen ∧ s.penOut.index < 8 ∧ s.events.position < 32 ∧
    s.command.scan < 16 ∧ s.gestures.counter ≤ 255 ∧ s.fault.later ≤ 255

/-- The slots of a surface's table: each in range and none used twice (R43). -/
def SlotsSound (sf : Surface) (u : SurfaceUnit) : Prop :=
  (u.table.map (·.slot)).Nodup ∧ ∀ k ∈ u.table, k.slot < Config.tableSlots sf

/-- Both tables hold their slots soundly (R43). -/
def TablesSound (s : State) : Prop := SlotsSound .pad s.pad ∧ SlotsSound .screen s.screen

/-- A contact that is FINGER, or has been retracted, has been confirmed (R68, R69, R81, R83). -/
def ConfirmedFirst (k : Contact) : Prop := (k.cls = .finger ∨ k.retractedMark = true) → k.sinceConfirm.isSome = true

/-- A contact of a table that has been retracted is PALM or IGNORED (R69): a FINGER already
retracted cannot be in the table (R87). -/
def RetractedIsFinal (k : Contact) : Prop := k.retractedMark = true → k.cls = .palm ∨ k.cls = .ignored

/-- Every contact of a part, in its tables and closing lists, is confirmed before it is FINGER or
retracted, and no contact of a table is FINGER after its retraction. -/
def ContactsConfirmedFirst (s : State) : Prop :=
  ∀ sf, (∀ k ∈ (surfaceOf s sf).table, ConfirmedFirst k ∧ RetractedIsFinal k) ∧
    ∀ k ∈ (surfaceOf s sf).closing, ConfirmedFirst k

/-- A surface with nothing in it and nothing under way (Tables 1-7, 3-3, 9-1). -/
def SurfaceAtRest (u : SurfaceUnit) : Prop :=
  u.state = .inactive ∧ u.processing = none ∧ u.waiting = none ∧ u.table = [] ∧ u.closing = [] ∧
    u.clearReq = false ∧ u.sleepClose = false ∧ u.publisher.pending = none ∧ u.publisher.shown = [] ∧
    u.publisher.handed = [] ∧ u.publisher.access = .none

/-- The Pen Channel closed and away (Table 5-4). -/
def PenAtRest (c : PenChannel) : Prop :=
  c.state = .away ∧ c.isOpen = false ∧ c.guardOn = false ∧ c.button1 = false ∧ c.button2 = false ∧
    c.timeout = none ∧ c.linger = none

/-- A part in OFF or HALTED has ended every frame, contact, gesture, deadline, pass, command, load,
pending item and access of a stream; in OFF no suspension is applied (in HALTED it is kept, Table
4-4), and in HALTED no fault record write is left (in OFF one may go on, log 24). (Tables 1-7, 3-3,
4-4, 5-4, 6-7, 7-6, 8-14, 9-1, 10-1; R198.) -/
def AtRest (s : State) : Prop :=
  s.regs.state = .off ∨ s.regs.state = .halted →
    s.regs.stopping = false ∧ SurfaceAtRest s.pad ∧ SurfaceAtRest s.screen ∧ PenAtRest s.pen ∧
    s.gestures = emptyGestures s.gestures.counter ∧ s.penOut.pending = none ∧ s.penOut.handed = [] ∧
    s.penOut.access = .none ∧ s.events.queue = [] ∧ s.events.handed = [] ∧ s.events.access = .none ∧
    s.inputs.typing = none ∧ s.command.pass = none ∧ s.command.inFlight = none ∧ s.command.rescan = false ∧
    s.posture.staging = none ∧ s.posture.zoneStaging = none ∧
    (s.regs.state = .off → s.suspension.applied = false) ∧
    s.wakeReported = false ∧ (s.regs.state = .halted → s.fault.write = none)

/-- Whether the screen's state keeps the Pen Channel open (R107). -/
def opensPen : SurfaceState → Bool
  | .active => true
  | .watch => true
  | .inactive => false
  | .settling => false

/-- The Pen Channel's items agree with its state: the guard is ON except in AWAY (R101), the pen
timeout runs in HOVER and TOUCH alone (R98), the linger deadline in LINGER alone (R99), no button
is held outside HOVER and TOUCH (R106), and the channel is open exactly while the screen is ACTIVE
or WATCH, being AWAY when closed (R107). -/
def PenConsistent (s : State) : Prop :=
  s.pen.guardOn = (s.pen.state != .away) ∧
  s.pen.timeout.isSome = penInRange s.pen ∧
  s.pen.linger.isSome = (s.pen.state == .linger) ∧
  (penInRange s.pen = false → s.pen.button1 = false ∧ s.pen.button2 = false) ∧
  s.pen.isOpen = opensPen s.screen.state ∧
  (s.pen.isOpen = false → s.pen.state = .away)

end Machine

end Sys2Proof
end

