-- ==== Sys2Proof/Certificates/Slice0/Obligations.lean ====
section
/-! DEFINITION. The statements for the provers. Each docstring names the rule or section of spec/
that the statement formalises. -/

section

open Sys2Proof Sys2Proof.Machine

/-! ### The machine as a whole -/

/-- A step takes the command at the front of the queue and executes it with the queue's rest. -/
def Obligations.StepRunsFrontCommand : Prop :=
  ∀ (c : Instr) (rest : List Instr) (s : State), s.pending = c :: rest →
    step s = exec c { s with pending := rest }

/-- Every command, in every state, answers a next state, without fault or refusal, and leaves the
queue as it is. Two things in this are the model's choice: an event that cannot occur in a state (a
completion nobody awaits, an expiry not due) answers that state unchanged (log 1), and the resets keep
the queue, which is the model's own field (logs 27 and 34). -/
def Obligations.CommandsCompleteAndKeepQueue : Prop :=
  ∀ (c : Instr) (s : State), ∃ t, exec c s = .next t ∧ t.pending = s.pending

/-- The invariants hold after power-on reset. -/
def Obligations.ResetMeetsInvariants : Prop :=
  Memory.wf State.reset.area = true ∧ QueueBounded State.reset ∧ PositionsInRange State.reset ∧
    TablesSound State.reset ∧ ContactsConfirmedFirst State.reset ∧ AtRest State.reset ∧ PenConsistent State.reset

/-- Every step keeps the memory image in canonical form. The image, of the bytes the part has written into
host memory, is the model's own (log 2). -/
def Obligations.StepKeepsMemoryCanonical : Prop :=
  ∀ s t : State, Memory.wf s.area = true → step s = .next t → Memory.wf t.area = true

/-- The holding queue never holds more than 8 events (R183). -/
def Obligations.StepKeepsHoldingQueueBounded : Prop :=
  ∀ s t : State, QueueBounded s → step s = .next t → QueueBounded t

/-- Publish indices, frame counts, id pointers, the event write position, the scan position, the
gesture instance counter, the wake run counts and the later-fault count stay in their ranges. (The
settle counts, the merged counts and the 16-bit counters are not among them.) -/
def Obligations.StepKeepsPositionsInRange : Prop :=
  ∀ s t : State, PositionsInRange s → step s = .next t → PositionsInRange t

/-- Each contact table keeps its slots within the capacity and none used twice (R43). -/
def Obligations.StepKeepsTableSlotsSound : Prop :=
  ∀ s t : State, TablesSound s → step s = .next t → TablesSound t

/-- No contact is FINGER or retracted before it has been confirmed (R68, R69). -/
def Obligations.StepKeepsContactsConfirmedFirst : Prop :=
  ∀ s t : State, ContactsConfirmedFirst s → step s = .next t → ContactsConfirmedFirst t

/-- A part in OFF or HALTED has no frame, contact, gesture, deadline, pass, command, load, pending item
or stream access left, and in OFF no suspension applied (the OFF and HALTED columns of the state
tables). A fault record write may go on in OFF (log 24); in HALTED none is left. -/
def Obligations.StepKeepsOffAndHaltedAtRest : Prop :=
  ∀ s t : State, AtRest s → step s = .next t → AtRest t

/-- The Pen Channel's guard, deadlines, buttons and open marker agree with its state and the
screen's (R98, R99, R101, R106, R107). -/
def Obligations.StepKeepsPenConsistent : Prop :=
  ∀ s t : State, AtRest s → PenConsistent s → step s = .next t → PenConsistent t

/-- HALTED is left only by a reset; in it the part writes nothing into memory and drives ERR and
ATTN high (R198). -/
def Obligations.HaltedLeftOnlyByReset : Prop :=
  ∀ (c : Instr) (s t : State), s.regs.state = .halted → AtRest s → exec c s = .next t →
    match c with
    | .powerOnReset _ | .resetLine _ => t.regs.state = .off ∧ err t = false ∧ attn t = false
    | _ => t.regs.state = .halted ∧ t.area = s.area ∧ err t = true ∧ attn t = true

/-- The Clock advances by one at a tick, wrapping after 2^48 − 1, in every run state; power-on
reset sets it to 0, and nothing else changes it (R187). That a tick changes nothing else is the
model's choice: a tick is one microsecond, and a deadline reached acts at its own expiry command
(logs 29 and 4). -/
def Obligations.ClockMovesOnlyByTick : Prop :=
  (∀ s : State, exec .clockTick s = .next { s with clock := BitVec.ofNat 48 ((s.clock.toNat + 1) % 2 ^ 48) }) ∧
  (∀ (c : Instr) (s t : State), exec c s = .next t →
    match c with
    | .clockTick => True
    | .powerOnReset _ => t.clock = 0
    | _ => t.clock = s.clock)

/-- R164: a read of CLOCK_LO returns the low word and latches the high bits; CLOCK_HI returns the
latch; only a read of CLOCK_LO and the resets change the latch; the two reads give one value. -/
def Obligations.ClockReadLatchesHighBits : Prop :=
  (∀ s : State, exec .clockLoRead s =
    .next { s with readData := s.clock.extractLsb' 0 32, latch := s.clock.extractLsb' 32 16 }) ∧
  (∀ s : State, readRegister s 0x18 = (0#16 ++ s.latch : BitVec 32)) ∧
  (∀ (c : Instr) (s t : State), exec c s = .next t →
    match c with
    | .clockLoRead => True
    | .powerOnReset _ | .resetLine _ => t.latch = 0
    | _ => t.latch = s.latch) ∧
  (∀ s t u : State, exec .clockLoRead s = .next t → u.latch = t.latch →
    ((readRegister u 0x18).extractLsb' 0 16 ++ t.readData : BitVec 48) = s.clock)

/-- R163: AREA_LO and AREA_HI form the base; a write is taken in OFF alone; an unaligned or zero
base is refused at RUN set; power-on reset clears both and nothing else changes them. -/
def Obligations.AreaBaseWrittenOnlyInOff : Prop :=
  (∀ r : Registers, areaBase r = (r.areaHi ++ r.areaLo : BitVec 64)) ∧
  (∀ (s : State) (v : BitVec 32), s.regs.state = .off →
    exec (.registerWrite 0x0C v) s = .next { s with regs := { s.regs with areaLo := v } } ∧
    exec (.registerWrite 0x10 v) s = .next { s with regs := { s.regs with areaHi := v } }) ∧
  (∀ (s : State) (v : BitVec 32), s.regs.state ≠ .off →
    exec (.registerWrite 0x0C v) s = .next s ∧ exec (.registerWrite 0x10 v) s = .next s) ∧
  (∀ s : State, s.regs.state = .off → s.regs.run = false →
    (areaBase s.regs = 0 ∨ (areaBase s.regs).toNat % 4096 ≠ 0) →
    exec .runSet s = .next { s with regs := { s.regs with run := false, areaInvalid := true } }) ∧
  (∀ (c : Instr) (s t : State), exec c s = .next t →
    match c with
    | .registerWrite offset _ =>
      (offset ≠ 0x0C#8 → t.regs.areaLo = s.regs.areaLo) ∧ (offset ≠ 0x10#8 → t.regs.areaHi = s.regs.areaHi)
    | .powerOnReset _ => t.regs.areaLo = 0 ∧ t.regs.areaHi = 0
    | _ => t.regs.areaLo = s.regs.areaLo ∧ t.regs.areaHi = s.regs.areaHi)

/-- A cause bit, once set, is cleared only by the host's write of 1 to it in STATUS or by a reset; a
write to STATUS outside HALTED clears the bits written 1 and no other, a write to any other register
changes no cause (R160, R162). -/
def Obligations.CausesClearedOnlyByHostOrReset : Prop :=
  ∀ (c : Instr) (s t : State), exec c s = .next t →
    match c with
    | .powerOnReset _ | .resetLine _ => t.regs.causes = 0
    | .statusCauseClear v => t.regs.causes =
        if s.regs.state = .halted then s.regs.causes else s.regs.causes &&& ~~~(v.extractLsb' 8 7)
    | .faultClear => t.regs.causes =
        if s.regs.state = .halted then s.regs.causes else s.regs.causes &&& 0x3F#7
    | .registerWrite offset v => t.regs.causes =
        if s.regs.state ≠ .halted ∧ offset = 0x08#8 then s.regs.causes &&& ~~~(v.extractLsb' 8 7)
        else s.regs.causes
    | _ => s.regs.causes &&& t.regs.causes = s.regs.causes

/-- The words, frames and slot accesses of one surface leave the other surface alone (chapter 1:
a SHORT on the PAD link never touches the screen's counters; R14). -/
def Obligations.SurfacesWorkIndependently : Prop :=
  ∀ (c : Instr) (s t : State), exec c s = .next t →
    match c with
    | .startWord sf _ | .cellWord sf _ | .endWord sf | .frameStart sf | .frameProcessingEnd sf
    | .frameSlotStateRead sf _ | .frameSlotPublished sf =>
      surfaceOf t (otherSurface sf) = surfaceOf s (otherSurface sf)
    | _ => True

/-- A bank changes only by LOAD_BANK and SET_PUBLISH, the posture only by SET_POSTURE, the map only
by SET_POSTURE_MAP, the hand only by SET_HAND, a zone table only by LOAD_ZONES, but for the resets
(R142, R145, R149, R155, R157). -/
def Obligations.SettingsChangeOnlyByTheirCommands : Prop :=
  ∀ (c : Instr) (s t : State), exec c s = .next t →
    (match c with
     | .powerOnReset _ | .resetLine _ => t.posture = resetPosture
     | .loadBank _ | .setPublish => True
     | _ => t.posture.bankA = s.posture.bankA ∧ t.posture.bankB = s.posture.bankB) ∧
    (match c with
     | .powerOnReset _ | .resetLine _ | .setPosture => True
     | _ => t.posture.posture = s.posture.posture) ∧
    (match c with
     | .powerOnReset _ | .resetLine _ | .setPostureMap => True
     | _ => t.posture.map = s.posture.map) ∧
    (match c with
     | .powerOnReset _ | .resetLine _ | .setHand => True
     | _ => t.posture.hand = s.posture.hand) ∧
    (match c with
     | .powerOnReset _ | .resetLine _ => t.pad.zones = emptyZones ∧ t.screen.zones = emptyZones
     | .loadZones _ => True
     | _ => t.pad.zones = s.pad.zones ∧ t.screen.zones = s.screen.zones)

/-! ### Resets and changes of run state: the state tables -/

/-- A table of state: what each reset, RUN set from OFF with an accepted base, the end of a stop with
RUN clear and the entry into HALTED leave. The first argument is the state before, the second the
state after. The end of a stop with RUN set again is these rows one after the other:
RegisterCommandFaultStateTable. -/
def StateTable (reset runSet stopEnd halted : State → State → Prop) : Prop :=
  (∀ (level : Bool) (s : State), ∃ t, exec (.powerOnReset level) s = .next t ∧ reset s t) ∧
  (∀ (level : Bool) (s : State), ∃ t, exec (.resetLine level) s = .next t ∧ reset s t) ∧
  (∀ s : State, s.regs.state = .off → s.regs.run = false → baseValid s.regs = true → AtRest s →
    ∃ t, exec .runSet s = .next t ∧ runSet s t) ∧
  (∀ s : State, stopDone s = true → s.regs.run = false → ∃ t, exec .stopEnd s = .next t ∧ stopEnd s t) ∧
  (∀ s : State, s.fault.write.isSome = true →
    ∃ t, exec .faultRecordWriteFailure s = .next t ∧ halted s t)

/-- The tracker's and classifier's own items of a surface, kept over a change of run state. -/
def TrackerKept (u v : SurfaceUnit) : Prop :=
  v.idPointer = u.idPointer ∧ v.created = u.created ∧ v.counters = u.counters

/-- Table 3-3 (R66): the Contact Tracker's state, with the counters of Tables 1-7 and 4-4. -/
def Obligations.TrackerStateTable : Prop :=
  StateTable
    (fun _ t => ∀ sf, (surfaceOf t sf).table = [] ∧ (surfaceOf t sf).closing = [] ∧
      (surfaceOf t sf).clearReq = false ∧ (surfaceOf t sf).idPointer = 1 ∧ (surfaceOf t sf).created = 0 ∧
      (surfaceOf t sf).counters = zeroCounters)
    (fun s t => ∀ sf, (surfaceOf t sf).table = [] ∧ (surfaceOf t sf).closing = [] ∧
      (surfaceOf t sf).clearReq = false ∧ TrackerKept (surfaceOf s sf) (surfaceOf t sf))
    (fun s t => ∀ sf, (surfaceOf t sf).table = [] ∧ (surfaceOf t sf).closing = [] ∧
      (surfaceOf t sf).clearReq = false ∧ TrackerKept (surfaceOf s sf) (surfaceOf t sf))
    (fun s t => ∀ sf, (surfaceOf t sf).table = [] ∧ (surfaceOf t sf).closing = [] ∧
      (surfaceOf t sf).clearReq = false ∧ TrackerKept (surfaceOf s sf) (surfaceOf t sf))

/-- Table 1-7 (R24): frame interface, surface state, settle count, bank in force; with the live
finger enables and the suspension of Table 4-4 (R92): saved enable, suspension applied, last
activation count seen. -/
def Obligations.FrameInterfaceStateTable : Prop :=
  StateTable
    (fun _ t => (∀ sf, (surfaceOf t sf).decoder = .idle ∧ (surfaceOf t sf).lastNumber = none ∧
        (surfaceOf t sf).processing = none ∧ (surfaceOf t sf).waiting = none ∧
        (surfaceOf t sf).state = .inactive ∧ (surfaceOf t sf).settle = 0 ∧ (surfaceOf t sf).bankInForce = .a ∧
        (surfaceOf t sf).enable = true) ∧
      slowPad t = false ∧ slowScreen t = false ∧
      t.suspension = { saved := true, applied := false, seen := 0 })
    (fun s t => (∀ sf, (surfaceOf t sf).decoder = (surfaceOf s sf).decoder ∧ (surfaceOf t sf).lastNumber = none ∧
        (surfaceOf t sf).processing = none ∧ (surfaceOf t sf).waiting = none ∧
        (surfaceOf t sf).state = (if activityOf (currentEntry s.posture) sf then .settling else .inactive) ∧
        (surfaceOf t sf).settle = 0 ∧ (surfaceOf t sf).bankInForce = (currentEntry s.posture).bank ∧
        (surfaceOf t sf).enable = (surfaceOf s sf).enable) ∧
      slowPad t = false ∧ slowScreen t = false ∧
      t.suspension = { saved := s.suspension.saved, applied := false, seen := s.pen.count })
    (fun s t => (∀ sf, (surfaceOf t sf).decoder = (surfaceOf s sf).decoder ∧
        (surfaceOf t sf).lastNumber = (surfaceOf s sf).lastNumber ∧
        (surfaceOf t sf).processing = none ∧ (surfaceOf t sf).waiting = none ∧
        (surfaceOf t sf).state = .inactive ∧ (surfaceOf t sf).settle = (surfaceOf s sf).settle ∧
        (surfaceOf t sf).bankInForce = (surfaceOf s sf).bankInForce) ∧
      slowPad t = false ∧ slowScreen t = false ∧ t.pad.enable = s.pad.enable ∧
      t.screen.enable = (if s.suspension.applied then s.suspension.saved else s.screen.enable) ∧
      t.suspension = { s.suspension with applied := false })
    (fun s t => (∀ sf, (surfaceOf t sf).decoder = .idle ∧ (surfaceOf t sf).lastNumber = (surfaceOf s sf).lastNumber ∧
        (surfaceOf t sf).processing = none ∧ (surfaceOf t sf).waiting = none ∧
        (surfaceOf t sf).state = .inactive ∧ (surfaceOf t sf).settle = (surfaceOf s sf).settle ∧
        (surfaceOf t sf).bankInForce = (surfaceOf s sf).bankInForce ∧
        (surfaceOf t sf).enable = (surfaceOf s sf).enable) ∧
      slowPad t = false ∧ slowScreen t = false ∧ t.suspension = s.suspension)

/-- The items of the Pen Channel kept over a change of run state (Table 5-4). -/
def PenKept (c d : PenChannel) : Prop :=
  d.count = c.count ∧ d.lastPos = c.lastPos ∧ d.last = c.last ∧ d.tool = c.tool ∧
    d.linkErrors = c.linkErrors ∧ d.timeouts = c.timeouts

/-- Table 5-4 (R110): the Pen Channel's state. -/
def Obligations.PenChannelStateTable : Prop :=
  StateTable
    (fun _ t => PenAtRest t.pen ∧ t.pen.count = 0 ∧ t.pen.lastPos = none ∧ t.pen.last = none ∧
      t.pen.tool = .pen ∧ t.pen.linkErrors = 0 ∧ t.pen.timeouts = 0)
    (fun s t => PenAtRest t.pen ∧ PenKept s.pen t.pen)
    (fun s t => PenAtRest t.pen ∧ PenKept s.pen t.pen)
    (fun s t => PenAtRest t.pen ∧ PenKept s.pen t.pen)

/-- Tables 6-7 and 7-6 (R141, R159): the Gesture Engine's and the Posture Unit's state, the staging
copies (of a bank, and of zone records read so far: log 19) among it. -/
def Obligations.GestureAndPostureStateTable : Prop :=
  StateTable
    (fun _ t => t.gestures = emptyGestures 0 ∧ t.posture = resetPosture ∧ t.posture.posture = .laptop ∧
      t.posture.hand = .right ∧ t.pad.zones = emptyZones ∧ t.screen.zones = emptyZones)
    (fun s t => t.gestures = emptyGestures s.gestures.counter ∧
      t.posture = { s.posture with staging := none, zoneStaging := none } ∧
      t.pad.zones = s.pad.zones ∧ t.screen.zones = s.screen.zones)
    (fun s t => t.gestures = emptyGestures s.gestures.counter ∧
      t.posture = { s.posture with staging := none, zoneStaging := none } ∧
      t.pad.zones = s.pad.zones ∧ t.screen.zones = s.screen.zones)
    (fun s t => t.gestures = emptyGestures s.gestures.counter ∧
      t.posture = { s.posture with staging := none, zoneStaging := none } ∧
      t.pad.zones = s.pad.zones ∧ t.screen.zones = s.screen.zones)

/-- Tables 8-14 and 11-1 (R175, R199): the registers but for the Clock and the area base, the
Command Unit and the Fault Unit. That a fault record write under way goes on over the end of a stop is
the model's reading (log 24). The end of a stop with RUN set again is RUN_SET taken in the OFF state
that the stop leaves (R166, R165). -/
def Obligations.RegisterCommandFaultStateTable : Prop :=
  (∀ s : State, stopDone s = true → s.regs.run = true →
    ∃ u, exec .stopEnd { s with regs := { s.regs with run := false } } = .next u ∧ u.regs.state = .off ∧
      u.regs.run = false ∧ AtRest u ∧ exec .stopEnd s = exec .runSet u) ∧
  StateTable
    (fun _ t => controlWord t.regs = 0 ∧ statusWord t.regs = 0 ∧ t.regs.stopping = false ∧ t.latch = 0 ∧
      t.command = { scan := 0, rescan := false, pass := none, inFlight := none } ∧
      t.fault = { written := false, later := 0, stored := none, write := none })
    (fun s t => t.regs = { s.regs with run := true, state := .running, areaInvalid := false, fenced := noFences } ∧
      t.latch = s.latch ∧ t.command = { scan := 0, rescan := false, pass := none, inFlight := none } ∧
      t.fault = s.fault)
    (fun s t => t.regs = { s.regs with state := .off, stopping := false, areaInvalid := false } ∧ t.latch = s.latch ∧
      t.command = { scan := s.command.scan, rescan := false, pass := none, inFlight := none } ∧ t.fault = s.fault)
    (fun s t => t.regs = { s.regs with state := .halted, stopping := false } ∧ t.latch = s.latch ∧
      t.command = { scan := s.command.scan, rescan := false, pass := none, inFlight := none } ∧
      t.fault = { s.fault with write := none })

/-- Nothing held back for the host is left (Table 9-1), and no access of the Publisher is under way:
in HALTED by R186, at the end of a stop by the model's choice for pen and event accesses (log 9); what was
handed over and waits for the access is discarded with it (log 42). -/
def OutputEmpty (t : State) : Prop :=
  (∀ sf, (surfaceOf t sf).publisher.pending = none ∧ (surfaceOf t sf).publisher.shown = [] ∧
      (surfaceOf t sf).publisher.handed = [] ∧ (surfaceOf t sf).publisher.access = .none) ∧
    t.penOut.pending = none ∧ t.penOut.handed = [] ∧ t.penOut.access = .none ∧
    t.events.queue = [] ∧ t.events.handed = [] ∧ t.events.access = .none

/-- Frame counts and event counters are kept. -/
def CountsKept (s t : State) : Prop :=
  t.pad.publisher.count = s.pad.publisher.count ∧ t.screen.publisher.count = s.screen.publisher.count ∧
    t.events.lost = s.events.lost ∧ t.events.coalesced = s.events.coalesced

/-- The Publisher's three kinds of position have given values. -/
def PositionsAre (t : State) (pad screen pen event : Nat) : Prop :=
  t.pad.publisher.index = pad ∧ t.screen.publisher.index = screen ∧ t.penOut.index = pen ∧ t.events.position = event

/-- Table 9-1 (R186): the Publisher's state. That a pen or event access under way is abandoned at the
end of a stop is the model's choice (log 9), and so is that what waits for it is discarded (log 42). -/
def Obligations.PublisherStateTable : Prop :=
  StateTable
    (fun _ t => OutputEmpty t ∧ PositionsAre t 0 0 0 0 ∧ t.pad.publisher.count = 0 ∧
      t.screen.publisher.count = 0 ∧ t.events.lost = 0 ∧ t.events.coalesced = 0 ∧
      t.pad.publisher.idle = false ∧ t.screen.publisher.idle = false ∧ t.events.loss = false)
    (fun s t => OutputEmpty t ∧ PositionsAre t 0 0 0 0 ∧ CountsKept s t ∧
      t.pad.publisher.idle = false ∧ t.screen.publisher.idle = false ∧ t.events.loss = false)
    (fun s t => OutputEmpty t ∧
      PositionsAre t s.pad.publisher.index s.screen.publisher.index s.penOut.index s.events.position ∧
      CountsKept s t ∧ t.pad.publisher.idle = false ∧ t.screen.publisher.idle = false ∧ t.events.loss = false)
    (fun s t => OutputEmpty t ∧
      PositionsAre t s.pad.publisher.index s.screen.publisher.index s.penOut.index s.events.position ∧
      CountsKept s t ∧ t.pad.publisher.idle = s.pad.publisher.idle ∧
      t.screen.publisher.idle = s.screen.publisher.idle ∧ t.events.loss = s.events.loss)

/-- The host address of an area offset (R163, R167); that the sum wraps at 2^64 is the model's choice
(log 17). -/
def addressOf (r : Registers) (offset : Nat) : Nat :=
  ((r.areaHi ++ r.areaLo : BitVec 64) + BitVec.ofNat 64 offset).toNat

/-- The bytes of a record's fields in memory (section 8.4): each field is its offset in the record, its size
and its value, in little-endian bytes, and `start` is the record's area offset. -/
def layout (r : Registers) (start : Nat) (fields : List (Nat × Nat × Nat)) : List Host.Cell :=
  fields.flatMap fun q =>
    (List.range q.2.1).map fun i => (addressOf r (start + q.1 + i), BitVec.ofNat 8 (q.2.2 / 256 ^ i))

/-- A record's writes (R167): the bytes of its fields, each once and at an address of its own, the state or kind
byte at the record's start last. -/
def RecordWrites (r : Registers) (start : Nat) (fields : List (Nat × Nat × Nat)) (state : Nat)
    (cells : List Host.Cell) : Prop :=
  cells.Perm (layout r start fields) ∧ (cells.map fun c => c.1).Nodup ∧
    cells.getLast? = some (addressOf r start, BitVec.ofNat 8 state)

/-- Writes that have all been made stand in memory, and no other byte has changed. -/
def WrittenThereAlone (before after : List Host.Cell) (cells : List Host.Cell) : Prop :=
  after = writeBytes before cells ∧
  ((cells.map fun c => c.1).Nodup → ∀ c ∈ cells, readByte after c.1 = some c.2) ∧
  ∀ a, (∀ c ∈ cells, c.1 ≠ a) → readByte after a = readByte before a

/-- A byte of flags, bit 0 first. -/
def flagField (l : List Bool) : Nat := l.foldr (fun x n => x.toNat + 2 * n) 0

/-- A signed value in two bytes, or in one. -/
def signedField (size : Nat) (v : Int) : Nat := (v % 256 ^ size).toNat

/-- The codes of Tables 8-2 to 8-11 count from 0 in the order of the table. -/
def codeOf {α : Type} [DecidableEq α] (names : List α) (x : α) : Nat := names.idxOf x

/-- A bank's code. -/
def bankField (bank : BankId) : Nat := codeOf [.a, .b] bank

/-- The write of TAKEN into a command record (Table 8-4). -/
def takenWrite (r : Registers) (index : Nat) : List Host.Cell := [(addressOf r (64 * index), 2#8)]

/-- The image of host memory, the value last read, and the commands waiting, which the resets, RUN set
and the end of a stop leave (logs 2, 15, 27); of a write cut off nothing has landed (logs 9, 18, 40). -/
def Untouched (s t : State) : Prop := t.area = s.area ∧ t.readData = s.readData ∧ t.pending = s.pending

/-- The image in which the record of a command in flight reads TAKEN (R171, R172). -/
def takenImage (s : State) : List Host.Cell :=
  match s.command.inFlight with
  | some f => if f.taken then s.area else writeBytes s.area (takenWrite s.regs f.index)
  | none => s.area

/-- Table 10-1 (R194): the Clock, the KEYACT detector, the typing-guard deadline, the wake run counts
and the wake-reported marker, with SLEEP in RUNNING and WAKE in DOZE left to their own statement.
The image of host memory is left as it is, but that on entry to HALTED the record of a command in
flight reads TAKEN (R172). That of a write abandoned or cut off no byte has landed is the model's choice
(logs 9, 18 and 40). -/
def Obligations.LineInputsAndWatchStateTable : Prop :=
  StateTable
    (fun s t => t.inputs.typing = none ∧ t.pad.wakeRun = 0 ∧ t.screen.wakeRun = 0 ∧ t.wakeReported = false ∧
      Untouched s t)
    (fun s t => t.inputs = { level := s.inputs.level, typing := none } ∧ t.pad.wakeRun = 0 ∧
      t.screen.wakeRun = 0 ∧ t.wakeReported = false ∧ t.clock = s.clock ∧ Untouched s t)
    (fun s t => t.inputs = { level := s.inputs.level, typing := none } ∧ t.pad.wakeRun = 0 ∧
      t.screen.wakeRun = 0 ∧ t.wakeReported = false ∧ t.clock = s.clock ∧ Untouched s t)
    (fun s t => t.inputs = { level := s.inputs.level, typing := none } ∧ t.pad.wakeRun = 0 ∧
      t.screen.wakeRun = 0 ∧ t.wakeReported = false ∧ t.clock = s.clock ∧
      t.area = takenImage s ∧ t.readData = s.readData ∧ t.pending = s.pending) ∧
  (∀ (level : Bool) (s t : State), exec (.powerOnReset level) s = .next t → t.inputs.level = level ∧ t.clock = 0) ∧
  (∀ (level : Bool) (s t : State), exec (.resetLine level) s = .next t →
    t.inputs.level = level ∧ t.clock = s.clock ∧ areaBase t.regs = areaBase s.regs)

/-! ### Frame links -/

/-- A 16-bit saturating counter one higher. -/
def oneMore (n : Nat) : Nat := min (n + 1) 65535

/-- A link error counter after an error, counted in RUNNING or DOZE on a surface that is not
INACTIVE (R3). -/
def linkCount (s : State) (u : SurfaceUnit) (n : Nat) : Nat :=
  if (s.regs.state = .running ∨ s.regs.state = .doze) ∧ u.state ≠ .inactive then oneMore n else n

/-- R1, Table 1-2: what START, CELL and END do in IDLE, OPEN and SKIPPING, with the counting of R3;
an END that completes a frame has it accepted (R2) and leaves the decoder IDLE; both resets leave it IDLE. -/
def Obligations.LinkDecoderTable : Prop :=
  (∀ (sf : Surface) (s : State), s.regs.state ≠ .halted →
    let u := surfaceOf s sf
    (∀ k : BitVec 8, exec (.startWord sf k) s = .next (withSurface s sf
      { u with
        decoder := .opened k []
        counters := match u.decoder with
          | .opened _ _ => { u.counters with short := linkCount s u u.counters.short }
          | .idle => u.counters
          | .skipping => u.counters })) ∧
    (∀ v : BitVec 13, exec (.cellWord sf v) s = .next (withSurface s sf
      (match u.decoder with
       | .idle => { u with decoder := .skipping, counters := { u.counters with orphan := linkCount s u u.counters.orphan } }
       | .opened k cells =>
         if cells.length < Config.cells sf then { u with decoder := .opened k (cells ++ [v.toInt]) }
         else { u with decoder := .skipping, counters := { u.counters with long := linkCount s u u.counters.long } }
       | .skipping => u))) ∧
    (u.decoder = .idle → exec (.endWord sf) s = .next (withSurface s sf
      { u with decoder := .skipping, counters := { u.counters with orphan := linkCount s u u.counters.orphan } })) ∧
    (u.decoder = .skipping → exec (.endWord sf) s = .next s) ∧
    (∀ k cells, u.decoder = .opened k cells → cells.length < Config.cells sf →
      exec (.endWord sf) s = .next (withSurface s sf
        { u with decoder := .idle, counters := { u.counters with short := linkCount s u u.counters.short } })) ∧
    (∀ k cells, u.decoder = .opened k cells → cells.length = Config.cells sf →
      let v := acceptFrame s k cells { u with decoder := .idle }
      exec (.endWord sf) s = .next (withSurface s sf v) ∧ v.decoder = .idle)) ∧
  (∀ (level : Bool) (s t : State),
    (exec (.powerOnReset level) s = .next t ∨ exec (.resetLine level) s = .next t) →
    t.pad.decoder = .idle ∧ t.screen.decoder = .idle)

/-- An END that completes a frame: the frame carries the link's number, the Clock and the cells; it
is dropped at the link in OFF, and in DOZE for an INACTIVE surface, discarded during a stop, and
else taken by the frame places, with GAP and OVERRUN counted (R2, R5, R6, R8, R9). That the drop at
the link comes before the stop's discard is the model's reading (log 38). -/
def Obligations.AcceptedFrameTakesItsPlace : Prop :=
  ∀ (sf : Surface) (s : State) (k : BitVec 8) (cells : List Int), s.regs.state ≠ .halted →
    (surfaceOf s sf).decoder = .opened k cells → cells.length = Config.cells sf →
    let u := surfaceOf s sf
    let dropped : Prop := s.regs.state = .off ∨ (s.regs.state = .doze ∧ u.state = .inactive)
    let gap := decide ((∃ n ∈ u.lastNumber, k ≠ n + 1) ∧ u.state ≠ .inactive)
    let frame : Frame := { number := k, time := s.clock, cells := cells, gap := gap }
    let counted : SurfaceCounters := if gap then { u.counters with gap := oneMore u.counters.gap } else u.counters
    let placed : SurfaceUnit := { u with decoder := .idle, lastNumber := some k, counters := counted }
    (dropped → exec (.endWord sf) s = .next (withSurface s sf { u with decoder := .idle, lastNumber := none })) ∧
    (¬dropped → s.regs.stopping = true → exec (.endWord sf) s = .next (withSurface s sf { u with decoder := .idle })) ∧
    (¬dropped → s.regs.stopping = false →
      (u.processing = none → exec (.endWord sf) s = .next (withSurface s sf
        { placed with processing := some { frame := frame, start := none } })) ∧
      (u.processing.isSome = true → u.waiting = none → exec (.endWord sf) s = .next (withSurface s sf
        { placed with waiting := some frame })) ∧
      (u.processing.isSome = true → u.waiting.isSome = true → exec (.endWord sf) s = .next (withSurface s sf
        { placed with
          waiting := some { frame with gap := true }
          counters := if u.state = .inactive then counted
                      else { counted with overrun := oneMore counted.overrun } })))

/-- R4: in HALTED the decoders ignore every word; at entry each becomes IDLE and no link error is
counted; both resets leave them IDLE. -/
def Obligations.HaltedLinksIgnoreWords : Prop :=
  (∀ (sf : Surface) (s : State), s.regs.state = .halted →
    (∀ k, exec (.startWord sf k) s = .next s) ∧ (∀ v, exec (.cellWord sf v) s = .next s) ∧
    exec (.endWord sf) s = .next s) ∧
  (∀ s : State, s.fault.write.isSome = true → ∃ t, exec .faultRecordWriteFailure s = .next t ∧
    t.regs.state = .halted ∧ ∀ sf, (surfaceOf t sf).decoder = .idle ∧ (surfaceOf t sf).counters = (surfaceOf s sf).counters) ∧
  (∀ (level : Bool) (s t : State),
    (exec (.powerOnReset level) s = .next t ∨ exec (.resetLine level) s = .next t) →
    t.regs.state = .off ∧ t.pad.decoder = .idle ∧ t.screen.decoder = .idle)

/-! ### Frames -/

/-- A frame waits to begin on a surface on which the frame start has nothing left over to end: no
clear request, no first start after SLEEP. -/
def ReadyToStart (s : State) (sf : Surface) (f : Frame) : Prop :=
  (surfaceOf s sf).processing = some { frame := f, start := none } ∧
    (surfaceOf s sf).clearReq = false ∧ (surfaceOf s sf).sleepClose = false

/-- GESTURE_END of a gesture in service (Table 6-6). -/
def gestureEnded (v : Service) (outcome : Nat) (time : Time) : Event :=
  { kind := .gestureEnd, type := gestureCode v.gesture, fingers := v.members.length, outcome := outcome
    inst := v.inst, steps := v.steps, dx := 0, dy := 0, span := 0, time := time }

/-- The events of a pad whose gesture in service, if there is one, ends as a whole (R130, R131). -/
def wholeEnded (g : GestureEngine) (outcome : Nat) (time : Time) : List Event :=
  match g.service with
  | some v => [gestureEnded v outcome time]
  | none => []

/-- The gesture state after the floor of a pad frame start that goes on to tracking: at or above its
priority the gesture in service is gone, and from 1 on the pending tap (R129, R135). -/
def floorLeaves (floor : Nat) (g : GestureEngine) : GestureEngine :=
  { g with
    tap := if 1 ≤ floor then none else g.tap
    service := match g.service with
      | some v => if priority v.gesture ≤ floor then none else some v
      | none => none }

/-- The event of a gesture that the floor ends: WITHDRAWN (R129). -/
def floorEvents (floor : Nat) (time : Time) (g : GestureEngine) : List Event :=
  match g.service with
  | some v => if priority v.gesture ≤ floor then [gestureEnded v 4 time] else []
  | none => []

/-- The frame view that a frame start takes (R70, R91), in the state s before it and t after it: on the pad the
live finger enable and whether the typing guard runs; on the screen the live finger enable and the suspension
marker as the suspension step leaves them, the guard state, its activation count, the pen's last mapped
position, whether the count differs from the last one seen, and the hand. -/
def TakesView (sf : Surface) (s t : State) (v : FrameView) : Prop :=
  match sf with
  | .pad => v.enable = s.pad.enable ∧ v.typing = s.inputs.typing.isSome
  | .screen => v.enable = t.screen.enable ∧ v.suspended = t.suspension.applied ∧ v.guardOn = s.pen.guardOn ∧
      v.guardCount = s.pen.count ∧ v.penPos = s.pen.lastPos.map (fun q => q.1) ∧
      v.newlySeen = decide (s.pen.count ≠ s.suspension.seen) ∧ v.hand = s.posture.hand

/-- A pad frame start touches neither the pad's finger enable nor the screen's suspension (R70, R88). -/
def PadKeepsEnable (sf : Surface) (s t : State) : Prop :=
  sf = .pad → t.suspension = s.suspension ∧ t.pad.enable = s.pad.enable

/-- What a frame start that goes on to tracking leaves of the gesture state and the events: on the pad
the floor taken, on the screen nothing. -/
def FloorTaken (sf : Surface) (floor : Nat) (time : Time) (s t : State) : Prop :=
  (sf = .pad → t.gestures = floorLeaves floor s.gestures ∧
    t.events = (handEvents s (floorEvents floor time s.gestures)).events) ∧
  (sf = .screen → t.gestures = s.gestures ∧ t.events = s.events)

/-- A frame start in RUNNING on a surface in SETTLING or INACTIVE with nothing left over (Table 1-5,
R10, R11, R13, R14). Shown active, an INACTIVE surface first enters SETTLING with settle count 0; below
settle_frames the frame is discarded and counted, else the surface becomes ACTIVE and the same frame is
tracked, the screen opening the Pen Channel (R107); the bank in force becomes the snapshot's. The frame
view is taken (R70) and the zone table is the one that stands. Shown inactive, the surface is INACTIVE and the
frame is discarded without count; that the bank in force of a SETTLING surface then becomes the snapshot's too
is the model's reading (log 10). -/
def Obligations.FrameStartSettles : Prop :=
  ∀ (sf : Surface) (s : State) (f : Frame), s.regs.state = .running → ReadyToStart s sf f →
    (surfaceOf s sf).closing = [] → (surfaceOf s sf).state = .settling ∨ (surfaceOf s sf).state = .inactive →
    let u := surfaceOf s sf
    let active := activityOf (currentEntry s.posture) sf
    let bank := (currentEntry s.posture).bank
    let values := bankOf s.posture bank
    let need := (sectionOf sf values).settleFrames
    let count := if u.state = .inactive then 0 else u.settle
    ∃ t st, exec (.frameStart sf) s = .next t ∧
      st.snap = { bank := bank, active := active, values := values } ∧ st.zones = u.zones ∧
      TakesView sf s t st.view ∧ PadKeepsEnable sf s t ∧
      (active = false →
        surfaceOf t sf = { u with
          state := .inactive
          bankInForce := if u.state = .settling then bank else u.bankInForce
          processing := some { frame := f, start := some st }
          enable := (surfaceOf t sf).enable } ∧
        st.work = .discard ∧ t = { withSurface s sf (surfaceOf t sf) with suspension := t.suspension }) ∧
      (active = true → count < need →
        surfaceOf t sf = { u with
          state := .settling
          settle := count + 1
          bankInForce := bank
          counters := { u.counters with settleDiscards := oneMore u.counters.settleDiscards }
          processing := some { frame := f, start := some st }
          enable := (surfaceOf t sf).enable } ∧
        st.work = .discard ∧ t = { withSurface s sf (surfaceOf t sf) with suspension := t.suspension }) ∧
      (active = true → need ≤ count →
        surfaceOf t sf = { u with
          state := .active
          settle := count
          bankInForce := bank
          processing := some { frame := f, start := some st }
          enable := (surfaceOf t sf).enable } ∧
        st.work = .track ∧
        t.pen = (if sf = .screen then { s.pen with isOpen := true } else s.pen) ∧
        FloorTaken sf values.padOnly.gestureFloor f.time s t ∧
        t = { withSurface s sf (surfaceOf t sf) with
          suspension := t.suspension, pen := t.pen, gestures := t.gestures, events := t.events })

/-- Whether a whole-table ending retracts a contact (R87, R69). -/
def retractedByEnding (k : Contact) : Bool := k.cls == .finger && !k.retractedMark

/-- A contact as a whole-table ending puts it into the closing list: ENDED with LEFT, a FINGER not yet
retracted with RETRACTED, class and reason kept (R59, R87). -/
def closedContact (k : Contact) : Contact :=
  { k with
    state := .ended
    retractedMark := k.retractedMark || retractedByEnding k
    flags := { k.flags with left := true, retracted := k.flags.retracted || retractedByEnding k } }

/-- A coordinate limited to 0..top. -/
def within (top : Nat) (v : Int) : Int := max 0 (min (top : Int) v)

/-- The entry that a contact closed by a whole-table ending hands over, its position limited to an
output range, with CLAMPED where that changed it (R57, R148). -/
def closedEntry (rangeX rangeY : Nat) (k : Contact) : Entry :=
  let pos : Pt := { x := within rangeX k.filtered.x, y := within rangeY k.filtered.y }
  { id := k.id, number := k.number, ended := true, cls := k.cls, reason := k.reason, zone := k.zone
    pos := pos, area := k.area, peak := k.peak, confirmed := k.sinceConfirm.isSome
    flags := { (closedContact k).flags with clamped := k.flags.clamped || decide (pos ≠ k.filtered) } }

/-- A surface's counters after a whole-table ending (R91). -/
def endingCounts (u : SurfaceUnit) : SurfaceCounters :=
  { u.counters with
    retractions := min (u.counters.retractions + (u.table.filter retractedByEnding).length) 65535 }

/-- Contacts of a table as a closing list: each once, the oldest first (R59, R46). -/
def IsClosingList (u : SurfaceUnit) (l : List Contact) : Prop :=
  l.Perm (u.table.map closedContact) ∧
    l.Pairwise fun a b => (u.created - b.number).toNat ≤ (u.created - a.number).toNat

/-- The handover of a closing list as a frame's result (R57, R60, R61, R148; the frame flags of R91 and
of Table 8-9). -/
def ClosingHandover (sf : Surface) (s t : State) (f : Frame) (snap : Snapshot) (h : Handover) : Prop :=
  let u := surfaceOf s sf
  let m := (sectionOf sf snap.values).mapping
  h.entries.Perm (u.table.map (closedEntry (outRangeX m) (outRangeY m))) ∧
    (h.entries.Pairwise fun a b => (u.created - b.number).toNat ≤ (u.created - a.number).toNat) ∧
    h.time = f.time ∧ h.bank = snap.bank ∧ h.palms = snap.values.shared.publishPalms ∧
    h.idle = snap.values.shared.publishIdle ∧ h.rangeX = outRangeX m ∧ h.rangeY = outRangeY m ∧
    h.flags = { blobsDropped := false, tableFull := false
                penSuspended := sf == .screen && t.suspension.applied
                typingGuard := sf == .pad && s.inputs.typing.isSome, lostEnds := false }

/-- A surface's Publisher after one handover (R176 to R180; SlotsArePublished says what each does); it waits for
the end of an access under way, after those that wait already (log 6). -/
def handedOver (sf : Surface) (s : State) (h : Handover) : FramePublisher :=
  let u := surfaceOf s sf
  runFrames sf (isFenced s.regs.fenced (frameStream sf)) s.clock u.created (u.publisher.handed ++ [h]) u.publisher

/-- The events of a closing Pen Channel: in HOVER and TOUCH each PRESSED button is released (R106,
R107). -/
def closingEvents (c : PenChannel) (time : Time) : List Event :=
  let released (button : Nat) : Event :=
    { kind := .penButton, type := button, fingers := 0, outcome := 2, inst := 0, steps := 0, dx := 0, dy := 0
      span := 0, time := time }
  if c.state = .hover ∨ c.state = .touch then
    (if c.button1 then [released 1] else []) ++ (if c.button2 then [released 2] else [])
  else []

/-- The closing sample (R107), from HOVER and TOUCH; without a last sample there is none (log 32). -/
def closingSamples (c : PenChannel) (time : Time) : List PenSample :=
  match c.last with
  | some l =>
    if c.state = .hover ∨ c.state = .touch then
      [{ state := .linger, tool := c.tool, button1 := false, button2 := false, pos := l.pos, bank := l.bank
         pressure := 0, tiltX := l.tiltX, tiltY := l.tiltY, hover := l.hover
         flags := { enteredRange := false, tipDown := false, tipUp := c.state == .touch, leftRange := true
                    timedOut := false, clamped := false }
         time := time }]
    else []
  | none => []

/-- A frame start in ACTIVE whose snapshot shows the surface inactive, or active on another bank than
that in force (R147, R59, R60, R87, R130, R107): the frame view is taken (R70); the table is emptied into the
closing list, each FINGER contact retracted and counted; the pad's gesture state ends with POSTURE_CANCELLED.
That the handover waits for an access under way is the model's reading (log 6). At a deactivation
one handover of the closing list is the frame's result, also for an empty table (log 13); the surface
becomes INACTIVE, and the screen's Pen Channel closes with a closing sample from HOVER or TOUCH. At a
bank change the closing list waits for the frame's own handover, and the frame is tracked on the new
bank. That the bank in force follows the snapshot at a deactivation too is the model's reading
(log 10). -/
def Obligations.FrameStartDeactivates : Prop :=
  ∀ (sf : Surface) (s : State) (f : Frame), s.regs.state = .running → ReadyToStart s sf f →
    (surfaceOf s sf).closing = [] → (surfaceOf s sf).state = .active →
    let u := surfaceOf s sf
    let active := activityOf (currentEntry s.posture) sf
    let bank := (currentEntry s.posture).bank
    let snap : Snapshot := { bank := bank, active := active, values := bankOf s.posture bank }
    (active = false → ∃ t st h, exec (.frameStart sf) s = .next t ∧
      surfaceOf t sf = { u with
        state := .inactive
        bankInForce := bank
        table := []
        processing := some { frame := f, start := some st }
        enable := (surfaceOf t sf).enable
        counters := endingCounts u
        publisher := handedOver sf s h } ∧
      st.work = .discard ∧ st.snap = snap ∧ st.zones = u.zones ∧ TakesView sf s t st.view ∧
      ClosingHandover sf s t f snap h ∧ PadKeepsEnable sf s t ∧
      (sf = .pad → t.gestures = emptyGestures s.gestures.counter ∧ t.pen = s.pen ∧ t.penOut = s.penOut ∧
        t.events = (handEvents s (wholeEnded s.gestures 5 f.time)).events) ∧
      (sf = .screen → t.gestures = s.gestures ∧ PenAtRest t.pen ∧ PenKept s.pen t.pen ∧
        t.events = (handEvents s (closingEvents s.pen s.clock)).events ∧
        t.penOut = (handSamples s (closingSamples s.pen s.clock)).penOut) ∧
      t = { withSurface s sf (surfaceOf t sf) with
        suspension := t.suspension, pen := t.pen, penOut := t.penOut, gestures := t.gestures, events := t.events }) ∧
    (active = true → bank ≠ u.bankInForce → ∃ t st l, exec (.frameStart sf) s = .next t ∧
      surfaceOf t sf = { u with
        bankInForce := bank
        table := []
        closing := l
        processing := some { frame := f, start := some st }
        enable := (surfaceOf t sf).enable
        counters := endingCounts u } ∧
      st.work = .track ∧ st.snap = snap ∧ st.zones = u.zones ∧ TakesView sf s t st.view ∧
      IsClosingList u l ∧ PadKeepsEnable sf s t ∧
      (sf = .pad → t.gestures = emptyGestures s.gestures.counter ∧
        t.events = (handEvents s (wholeEnded s.gestures 5 f.time)).events) ∧
      (sf = .screen → t.gestures = s.gestures ∧ t.events = s.events) ∧
      t = { withSurface s sf (surfaceOf t sf) with
        suspension := t.suspension, gestures := t.gestures, events := t.events })

/-- A frame start in ACTIVE that keeps the surface active on its bank in force ends no contact (R146,
R14): the contacts stay and the frame is tracked under a snapshot of that bank, with the frame view taken at
the start (R70); the pad's gesture state stays too but for what the floor takes (R129, R135). -/
def Obligations.FrameStartKeepsContacts : Prop :=
  ∀ (sf : Surface) (s : State) (f : Frame), s.regs.state = .running → ReadyToStart s sf f →
    (surfaceOf s sf).state = .active → activityOf (currentEntry s.posture) sf = true →
    (currentEntry s.posture).bank = (surfaceOf s sf).bankInForce →
    let u := surfaceOf s sf
    let values := bankOf s.posture u.bankInForce
    ∃ t st, exec (.frameStart sf) s = .next t ∧
      surfaceOf t sf = { u with processing := some { frame := f, start := some st }, enable := (surfaceOf t sf).enable } ∧
      st.work = .track ∧ st.snap = { bank := u.bankInForce, active := true, values := values } ∧
      st.zones = u.zones ∧ TakesView sf s t st.view ∧ PadKeepsEnable sf s t ∧ FloorTaken sf values.padOnly.gestureFloor f.time s t ∧
      (values.padOnly.gestureFloor = 0 → t.gestures = s.gestures) ∧
      t = { withSurface s sf (surfaceOf t sf) with
        suspension := t.suspension, gestures := t.gestures, events := t.events }

/-- What every frame start takes, in RUNNING and DOZE and whatever the surface's state: the snapshot, in WATCH
of the bank in force and else of the current posture's entry (R13); the frame view of its surface (R70); the
zone table as it stands. The screen's takes the suspension step before it takes the view (R88), and brings the
last activation count seen up to date (R70); the pad's touches neither. -/
def Obligations.ScreenFrameStartTakesSuspensionStep : Prop :=
  ∀ (sf : Surface) (s : State) (f : Frame), s.regs.state = .running ∨ s.regs.state = .doze →
    (surfaceOf s sf).processing = some { frame := f, start := none } →
    let u := surfaceOf s sf
    let bank := if u.state = .watch then u.bankInForce else (currentEntry s.posture).bank
    let near := s.pen.guardOn = true ∧ (bankOf s.posture bank).screenOnly.suspendAll = true
    ∃ t st, exec (.frameStart sf) s = .next t ∧
      (surfaceOf t sf).processing = some { frame := f, start := some st } ∧
      st.snap.bank = bank ∧ st.snap.values = bankOf s.posture bank ∧
      (u.state ≠ .watch → st.snap.active = activityOf (currentEntry s.posture) sf) ∧
      st.zones = u.zones ∧ TakesView sf s t st.view ∧ PadKeepsEnable sf s t ∧
      (sf = .screen → t.suspension.seen = s.pen.count ∧
        (s.suspension.applied = false → near →
          t.suspension.applied = true ∧ t.suspension.saved = s.screen.enable ∧ t.screen.enable = false) ∧
        (s.suspension.applied = true → ¬near →
          t.suspension.applied = false ∧ t.suspension.saved = s.suspension.saved ∧
          t.screen.enable = s.suspension.saved) ∧
        ((s.suspension.applied = true ↔ near) →
          t.suspension.applied = s.suspension.applied ∧ t.suspension.saved = s.suspension.saved ∧
          t.screen.enable = s.screen.enable))

/-- The end of a frame's processing empties the processing place and takes the waiting frame into it
(R7); a discarded frame changes nothing else but that it makes the drain of held events (R182). A frame with
tracking to do ends only once the Publisher has taken the earlier handovers of its surface, which wait while
an access is under way (logs 6 and 45); until then its end changes nothing. -/
def Obligations.ProcessingEndTakesWaitingFrame : Prop :=
  ∀ (sf : Surface) (s : State) (f : Frame) (st : FrameStart), s.regs.state = .running ∨ s.regs.state = .doze →
    (surfaceOf s sf).processing = some { frame := f, start := some st } →
    (st.work = .track → (surfaceOf s sf).publisher.handed ≠ [] → exec (.frameProcessingEnd sf) s = .next s) ∧
    (st.work ≠ .track ∨ (surfaceOf s sf).publisher.handed = [] →
      ∃ t, exec (.frameProcessingEnd sf) s = .next t ∧
        (surfaceOf t sf).processing = (surfaceOf s sf).waiting.map (fun w => { frame := w, start := none }) ∧
        (surfaceOf t sf).waiting = none ∧
        (st.work = .discard → t = { withSurface s sf (surfaceOf t sf) with events := (drainEvents s).events } ∧
          surfaceOf t sf = { surfaceOf s sf with
            processing := (surfaceOf t sf).processing, waiting := none }))

/-- A filtered coordinate after a blob has been taken: the last one limited to the range, held within the
deadband, else moved by the truncated fraction of the way (R36, R37). -/
def followed (p : SurfaceParams) (top : Nat) (raw last : Int) : Int :=
  let held := within top last
  if (raw - held).natAbs ≤ p.deadband then held else held + Int.tdiv ((raw - held) * p.filterAlpha) 256

/-- Contact a stands before contact b in creation order when the creation counter stands at c (R46). -/
def Older (c : BitVec 32) (a b : Contact) : Prop :=
  (c - b.number).toNat < (c - a.number).toNat ∨ ((c - a.number).toNat = (c - b.number).toNat ∧ a.slot ≤ b.slot)

/-- A contact's velocity at matching: 0 in a frame with the gap marker (R33). -/
def matchingVelocity (gap : Bool) (k : Contact) : Pt := if gap then { x := 0, y := 0 } else k.velocity

/-- The blobs that none of some claims has claimed (R48). -/
def unclaimed (blobs : List Blob) (claims : List (Option Blob)) : List Blob :=
  blobs.filter fun b => claims.all fun c => c.all fun x => x.index != b.index

/-- The claims of contacts taken in order (R34, R48): each contact that is not ENDED claims, of the blobs
that no contact before it has claimed, the one nearest its prediction within the gate. -/
def ClaimsInTurn (p : SurfaceParams) (gap : Bool) (blobs : List Blob) (old : List Contact)
    (claims : List (Option Blob)) : Prop :=
  claims.length = old.length ∧
  ∀ i k, old[i]? = some k → claims[i]? = some (if k.state = .ended then none else
    nearestBlob p.gate { x := k.centroid.x + (matchingVelocity gap k).x, y := k.centroid.y + (matchingVelocity gap k).y }
      (unclaimed blobs (claims.take i)))

/-- A contact after matching, by its claim (R49, R50, R32 to R37, R42): HELD with the blob's values, or
COASTING, or ENDED with LEFT. -/
def matchedContact (p : SurfaceParams) (gap : Bool) (claim : Option Blob) (k : Contact) : Contact :=
  match claim with
  | some b =>
    let m := mapPoint p.mapping b.centroid
    let held : Pt := { x := within (outRangeX p.mapping) k.filtered.x, y := within (outRangeY p.mapping) k.filtered.y }
    { k with
      state := .held, missed := 0, age := min (k.age + 1) 255, prevArea := some k.area
      area := b.area, peak := b.peak, signal := b.signal, edge := b.edge, centroid := b.centroid, mapped := m.1
      velocity := if gap then { x := 0, y := 0 } else
        { x := max (-4095) (min 4095 (b.centroid.x - k.centroid.x))
          y := max (-4095) (min 4095 (b.centroid.y - k.centroid.y)) }
      filtered := { x := followed p (outRangeX p.mapping) m.1.x k.filtered.x
                    y := followed p (outRangeY p.mapping) m.1.y k.filtered.y }
      flags := { k.flags with clamped := k.flags.clamped || m.2 || decide (held ≠ k.filtered) } }
  | none =>
    let still : Contact := { k with velocity := matchingVelocity gap k }
    if k.state = .ended then still
    else if k.missed < p.coastFrames then { still with state := .coasting, missed := k.missed + 1 }
    else { still with state := .ended, flags := { k.flags with left := true } }

/-- The free slots of a table, lowest first (R51). -/
def freeSlots (sf : Surface) (table : List Contact) : List Nat :=
  (List.range (Config.tableSlots sf)).filter fun i => table.all fun k => k.slot != i

/-- A contact as a blob creates it (R51, R72). -/
def createdContact (p : SurfaceParams) (zones : ZoneTable) (time : Time) (slot id : Nat) (number : BitVec 32)
    (b : Blob) : Contact :=
  let m := mapPoint p.mapping b.centroid
  { slot := slot, id := id, number := number, state := .fresh, cls := .undecided, reason := .none
    zone := (homeZone zones m.1).1, zoneFlags := (homeZone zones m.1).2, age := 1, sinceConfirm := none, missed := 0
    centroid := b.centroid, velocity := { x := 0, y := 0 }, mapped := m.1, filtered := m.1, down := none
    maxDisp := none, area := b.area, peak := b.peak, signal := b.signal, edge := b.edge, prevArea := none
    entered := time, retractedMark := false
    flags := { entered := true, confirmed := false, retracted := false, left := false, clamped := m.2 } }

/-- The id pointer after some contacts have been created (R53). -/
def pointerAfter (pointer : Nat) (made : List Contact) : Nat :=
  match made.getLast? with
  | some k => nextId k.id
  | none => pointer

/-- Creation (R46, R51 to R54): the unclaimed blobs in order take the free slots in order, as long as there
are any; each contact takes the next creation number and the first id from the pointer on that no contact
of the table, of the closing list or of the pending frame holds. -/
def MadeInTurn (sf : Surface) (p : SurfaceParams) (u : SurfaceUnit) (time : Time) (old : List Contact)
    (blobs : List Blob) (made : List Contact) : Prop :=
  made.length = min (freeSlots sf u.table).length blobs.length ∧
  ∀ (j slot : Nat) (b : Blob), (freeSlots sf u.table)[j]? = some slot → blobs[j]? = some b →
    made[j]? = some (createdContact p u.zones time slot
      (allocateId (pointerAfter u.idPointer (made.take j))
        ((old ++ made.take j).map (·.id) ++ (u.closing.map (·.id) ++ pendingIds u.publisher)))
      (u.created + BitVec.ofNat 32 j) b)

/-- Whether classification has confirmed, rejected or retracted a contact (R68, R69). -/
def confirmedNow (k k' : Contact) : Bool := k.cls == .undecided && k'.cls == .finger

/-- An UNDECIDED contact rejected. -/
def rejectedNow (k k' : Contact) : Bool := k.cls == .undecided && (k'.cls == .palm || k'.cls == .ignored)

/-- A contact retracted for the first time. -/
def retractedNow (k k' : Contact) : Bool := !k.retractedMark && k'.retractedMark

/-- What classification and the displacement leave of a contact (R55, R56): its class, reason and
since_confirm, with CONFIRMED and RETRACTED as they happened; the down position at the confirmation, and
the greatest distance from it while blobs are taken. What the class becomes, O34 states. -/
def Classified (k k' : Contact) : Prop :=
  k' = { k with
    cls := k'.cls, reason := k'.reason, sinceConfirm := k'.sinceConfirm, retractedMark := k'.retractedMark
    down := if confirmedNow k k' then some k.filtered else k.down
    maxDisp := if confirmedNow k k' then some 0 else
      match k'.sinceConfirm, k.down with
      | some _, some d =>
        if k.state = .held ∨ k.state = .fresh then some (max (k.maxDisp.getD 0) (ptDist d k.filtered)) else k.maxDisp
      | _, _ => k.maxDisp
    flags := { k.flags with
      confirmed := k.flags.confirmed || confirmedNow k k', retracted := k.flags.retracted || retractedNow k k' } }

/-- The contacts of a frame, before and after classification, to which something has happened. -/
def happened (test : Contact → Contact → Bool) (mid fin : List Contact) : List Contact :=
  ((mid.zip fin).filter fun q => test q.1 q.2).map (·.2)

/-- The entry of a contact in a handover (R57). -/
def handedEntry (k : Contact) : Entry :=
  { id := k.id, number := k.number, ended := k.state == .ended, cls := k.cls, reason := k.reason, zone := k.zone
    pos := k.filtered, area := k.area, peak := k.peak, confirmed := k.sinceConfirm.isSome, flags := k.flags }

/-- The entry of a contact of the closing list, its position limited to an output range (R57, R148). -/
def limitedHandedEntry (rangeX rangeY : Nat) (k : Contact) : Entry :=
  let pos : Pt := { x := within rangeX k.filtered.x, y := within rangeY k.filtered.y }
  { handedEntry k with pos := pos, flags := { k.flags with clamped := k.flags.clamped || decide (pos ≠ k.filtered) } }

/-- The handover of a tracked frame (R57, R52, R91): an entry of every contact of the closing list and of
every contact of the frame, the ENDED ones too, each with its flags, in creation order. -/
def TrackedHandover (sf : Surface) (s : State) (f : Frame) (st : FrameStart) (created : BitVec 32)
    (tableFull : Bool) (fin : List Contact) (h : Handover) : Prop :=
  let p := sectionOf sf st.snap.values
  h.entries.Perm ((surfaceOf s sf).closing.map (limitedHandedEntry (outRangeX p.mapping) (outRangeY p.mapping)) ++
    fin.map handedEntry) ∧
  (h.entries.Pairwise fun a b => (created - b.number).toNat ≤ (created - a.number).toNat) ∧
  h.time = f.time ∧ h.bank = st.snap.bank ∧ h.palms = st.snap.values.shared.publishPalms ∧
  h.idle = st.snap.values.shared.publishIdle ∧ h.rangeX = outRangeX p.mapping ∧ h.rangeY = outRangeY p.mapping ∧
  h.flags = { blobsDropped := decide (0 < (extractOn sf p f.cells).2), tableFull := tableFull
              penSuspended := sf == .screen && st.view.suspended, typingGuard := sf == .pad && st.view.typing
              lostEnds := false }

/-- What a tracked pad frame brings to the Gesture Engine (R111). -/
def engineInput (f : Frame) (st : FrameStart) (mid fin : List Contact) : GestureInput :=
  { contacts := fin
    confirmed := (happened confirmedNow mid fin).map (·.id)
    retracted := (happened retractedNow mid fin).map (·.id)
    params := st.snap.values.padOnly, typing := st.view.typing, time := f.time }

/-- A tracked frame, from the state s to t (R46 to R58, R111): `mid` are its contacts in creation order after
matching and creation, `fin` the same contacts after classification. The contacts of the table claim their
blobs in turn, those that find none coast or end, the blobs left create contacts; the frame is handed over
once; the ENDED contacts leave. -/
def TrackedFrame (sf : Surface) (s : State) (f : Frame) (st : FrameStart) (t : State) (mid fin : List Contact) : Prop :=
  let u := surfaceOf s sf
  let p := sectionOf sf st.snap.values
  let blobs := (extractOn sf p f.cells).1
  let dropped := (extractOn sf p f.cells).2
  ∃ h old claims made,
    old.Perm u.table ∧ old.Pairwise (Older u.created) ∧
    ClaimsInTurn p f.gap blobs old claims ∧
    MadeInTurn sf p u f.time old (unclaimed blobs claims) made ∧
    mid.Perm (List.zipWith (matchedContact p f.gap) claims old ++ made) ∧
    mid.Pairwise (Older (u.created + BitVec.ofNat 32 made.length)) ∧
    List.Forall₂ Classified mid fin ∧
    (let refused := (unclaimed blobs claims).length - made.length
     let created := u.created + BitVec.ofNat 32 made.length
     TrackedHandover sf s f st created (decide (0 < refused)) fin h ∧
     surfaceOf t sf = { u with
       processing := u.waiting.map fun w => { frame := w, start := none }
       waiting := none
       table := (fin.filter fun k => k.state != .ended).map fun k => { k with flags := noContactFlags }
       closing := []
       idPointer := pointerAfter u.idPointer made
       created := created
       counters := { u.counters with
         blobsDropped := min (u.counters.blobsDropped + dropped) 65535
         tableFull := min (u.counters.tableFull + refused) 65535
         confirmed := min (u.counters.confirmed + (happened confirmedNow mid fin).length) 65535
         rejected := min (u.counters.rejected + (happened rejectedNow mid fin).length) 65535
         retractions := min (u.counters.retractions + (happened retractedNow mid fin).length) 65535 }
       publisher := runFrames sf (isFenced s.regs.fenced (frameStream sf)) s.clock created [h] u.publisher }) ∧
    (sf = .screen → t.gestures = s.gestures ∧ t.events = (drainEvents s).events) ∧
    (sf = .pad → (t.gestures, t.events) =
      (let g := gestureFrame (engineInput f st mid fin) s.clock s.gestures
       (g.1, (drainEvents (handEvents s g.2)).events))) ∧
    t = { withSurface s sf (surfaceOf t sf) with gestures := t.gestures, events := t.events }

/-- The nearest unclaimed blob within the gate, the lower index at equal distance (R48); then a tracked
frame: the contacts in creation order claim their blobs in turn and are held, coast or end; each blob left
creates a contact while a slot is free, and is counted as TABLE_FULL after that; the frame is handed over
once, with the closing list, the contacts that stay and those that ended, and their flags; then the ENDED
contacts leave the table, the flags of the others are cleared, and the closing list is empty (R46 to R58).
On the pad the Gesture Engine works on the frame before the handover (R111), on the screen it does not; the
held events are drained at the end (R182); nothing else changes. That a coasting contact keeps its position
also where the output range has shrunk is the model's choice (log 39), and so is that a frame in processing
when SLEEP is taken has its gesture work done in DOZE (log 41). The ids that a new contact may not take are
those of the table, of the closing list and of the pending frame (R54); that content still on offer to a slot
counts as the pending frame there, and so holds its ids, is the model's reading (log 7). That the frame ends
once the earlier handovers of its surface have been taken, and that its own waits for the end of an access
under way, are the model's readings (logs 45 and 6). -/
def Obligations.TrackedFrameReleasesEnded : Prop :=
  (∀ (gate : Nat) (p : Pt) (blobs : List Blob),
    (∀ b, nearestBlob gate p blobs = some b → ptDist p b.centroid ≤ gate ∧
      ∃ pre post, blobs = pre ++ b :: post ∧ (∀ c ∈ pre, ptDist p b.centroid < ptDist p c.centroid) ∧
        ∀ c ∈ post, ptDist p b.centroid ≤ ptDist p c.centroid) ∧
    (nearestBlob gate p blobs = none → ∀ c ∈ blobs, gate < ptDist p c.centroid)) ∧
  ∀ (sf : Surface) (s : State) (f : Frame) (st : FrameStart), s.regs.state = .running ∨ s.regs.state = .doze →
    (surfaceOf s sf).processing = some { frame := f, start := some st } → st.work = .track →
    (surfaceOf s sf).publisher.handed = [] →
    ∃ t mid fin, exec (.frameProcessingEnd sf) s = .next t ∧ TrackedFrame sf s f st t mid fin

/-- Tests in order (R74, R79, R82, R84): the result is that of the first test met; without one there is none. -/
def FirstMet {α : Type} : List (Prop × α) → Option α → Prop
  | [], r => r = none
  | (test, a) :: rest, r => (test → r = some a) ∧ (¬test → FirstMet rest r)

/-- The octagonal distance of two points (R25): the greater of the two differences and half the lesser. -/
def octagonal (a b : Pt) : Nat :=
  let dx := (a.x - b.x).natAbs
  let dy := (a.y - b.y).natAbs
  max dx dy + min dx dy / 2

/-- The neighbour test (R75): some other contact of the table is a PALM, not ENDED, within palm_radius. -/
def NearPalm (p : SurfaceParams) (others : List Contact) (k : Contact) : Prop :=
  ∃ o ∈ others, o.cls = .palm ∧ o.state ≠ .ended ∧ octagonal o.mapped k.mapped ≤ p.palmRadius

/-- The guard region (R77); without a pen position nothing lies in it. -/
def InGuard (q : ScreenParams) (v : FrameView) (at_ : Pt) : Prop :=
  ∃ pen ∈ v.penPos, pen.y - q.guardMarginY ≤ at_.y ∧
    match v.hand with
    | .right => pen.x - q.guardMarginX ≤ at_.x
    | .left => at_.x ≤ pen.x + q.guardMarginX

/-- The pen guard test (R78), made on the screen. -/
def GuardedByPen (sf : Surface) (q : ScreenParams) (v : FrameView) (k : Contact) : Prop :=
  sf = .screen ∧ v.guardOn = true ∧ q.suspendAll = false ∧ InGuard q v k.mapped

/-- The edge-growth test (R80). -/
def GrowsAtEdge (p : SurfaceParams) (k : Contact) : Prop :=
  k.edge = true ∧ ∃ before ∈ k.prevArea, before + p.growLimit ≤ k.area

/-- The flat test (R81, R22). -/
def IsFlat (p : SurfaceParams) (k : Contact) : Prop :=
  max 1 (k.peak * 256 / k.signal) < p.flatLimit ∧ p.flatMinArea ≤ k.area

/-- A contact's class, reason, since_confirm and retracted marker after classification. -/
def Becomes (k' : Contact) (cls : Machine.Class) (reason : Reason) (since : Option Nat) (mark : Bool) : Prop :=
  k'.cls = cls ∧ k'.reason = reason ∧ k'.sinceConfirm = since ∧ k'.retractedMark = mark

/-- An UNDECIDED contact after its tests in order: rejected with the class and reason of the first one met, or,
where none is met, left to what follows. -/
def Tested (k k' : Contact) (tests : List (Prop × (Machine.Class × Reason))) (otherwise : Prop) : Prop :=
  ∃ met, FirstMet tests met ∧
    (∀ r, met = some r → Becomes k' r.1 r.2 k.sinceConfirm k.retractedMark) ∧ (met = none → otherwise)

/-- Confirmation (R81): FINGER with reason NONE and since_confirm 0; O33 states the down position, the
displacement and the CONFIRMED flag. -/
def Confirmed (k k' : Contact) : Prop := Becomes k' .finger .none (some 0) k.retractedMark

/-- The decision (R81): from the decision window on, twice as long in a PALM_EDGE zone, a flat contact is a
PALM and any other is confirmed; below it the contact stays UNDECIDED. -/
def DecidedAtWindow (p : SurfaceParams) (k k' : Contact) : Prop :=
  let window := if k.zoneFlags.palmEdge = true then 2 * p.decideFrames else p.decideFrames
  (k.age < window → Becomes k' .undecided k.reason k.sinceConfirm k.retractedMark) ∧
  (window ≤ k.age → IsFlat p k → Becomes k' .palm .flat k.sinceConfirm k.retractedMark) ∧
  (window ≤ k.age → ¬IsFlat p k → Confirmed k k')

/-- An UNDECIDED contact by its state (Table 4-3): created in the frame, the tests of R74 and the decision;
HELD, those of R79 and the decision; COASTING, nothing; ENDED in the frame, the ending decision (R82). -/
def UndecidedMoves (sf : Surface) (b : Bank) (v : FrameView) (others : List Contact) (k k' : Contact) : Prop :=
  let p := sectionOf sf b
  match k.state with
  | .fresh => Tested k k'
      [ (v.enable = false, (.ignored, .suspended)),
        (k.zoneFlags.ignoreZone = true, (.ignored, .zone)),
        (p.palmArea ≤ k.area, (.palm, .size)),
        (NearPalm p others k, (.palm, .neighbour)),
        (sf = .pad ∧ v.typing = true ∧ k.zoneFlags.typingExempt = false, (.palm, .typing)),
        (GuardedByPen sf b.screenOnly v k, (.palm, .penGuard)) ] (DecidedAtWindow p k k')
  | .held => Tested k k'
      [ (v.enable = false, (.ignored, .suspended)),
        (p.palmArea ≤ k.area, (.palm, .size)),
        (NearPalm p others k, (.palm, .neighbour)),
        (GuardedByPen sf b.screenOnly v k, (.palm, .penGuard)),
        (GrowsAtEdge p k, (.palm, .edgeGrow)) ] (DecidedAtWindow p k k')
  | .coasting => Becomes k' .undecided k.reason k.sinceConfirm k.retractedMark
  | .ended => Tested k k'
      [ (v.enable = false, (.ignored, .suspended)),
        (p.palmArea ≤ k.area, (.palm, .size)),
        (NearPalm p others k, (.palm, .neighbour)),
        (IsFlat p k, (.palm, .flat)) ] (Confirmed k k')

/-- A FINGER contact (R83 to R86): with fingers off it is retracted to IGNORED, whatever its state; else
since_confirm advances while it is HELD or COASTING, and while it is HELD within the retract window the tests
of R84 are made in order, the first one met retracting it to PALM. A contact is retracted at most once
(R69). -/
def FingerMoves (sf : Surface) (b : Bank) (v : FrameView) (others : List Contact) (k k' : Contact) : Prop :=
  let p := sectionOf sf b
  let off : Prop := v.enable = false ∧ k.retractedMark = false
  let since := if k.state = .held ∨ k.state = .coasting then k.sinceConfirm.map (fun n => min (n + 1) 255)
    else k.sinceConfirm
  let tried : Prop := k.state = .held ∧ since.getD 0 ≤ p.retractFrames ∧ k.retractedMark = false
  let stays : Prop := Becomes k' .finger k.reason since k.retractedMark
  (off → Becomes k' .ignored .suspended k.sinceConfirm true) ∧
  (¬off → ¬tried → stays) ∧
  (¬off → tried → ∃ met, FirstMet
      [ (p.palmArea ≤ k.area, Reason.size),
        (GrowsAtEdge p k, .edgeGrow),
        (NearPalm p others k, .neighbour),
        (sf = .screen ∧ v.newlySeen = true ∧ InGuard b.screenOnly v k.mapped, .penGuard) ] met ∧
    (∀ r, met = some r → Becomes k' .palm r since true) ∧ (met = none → stays))

/-- What classification makes of one contact (Table 4-3); PALM and IGNORED are final (R68). -/
def ClassMoves (sf : Surface) (b : Bank) (v : FrameView) (others : List Contact) (k k' : Contact) : Prop :=
  match k.cls with
  | .undecided => UndecidedMoves sf b v others k k'
  | .finger => FingerMoves sf b v others k k'
  | .palm => Becomes k' .palm k.reason k.sinceConfirm k.retractedMark
  | .ignored => Becomes k' .ignored k.reason k.sinceConfirm k.retractedMark

/-- How a tracked frame classifies its contacts (R68, R69, R71, R74 to R86): one after the other in creation
order, each by the tests of its state and class in their order, against the contacts before it as the frame
has left them and those after it as they stood; the decision, the ending decision, the advance of
since_confirm and the retractions. And a frame whose finger enable is off leaves no FINGER contact in the
table (R86, R74, R79, R82, R90). The frame is the one that O33 states, with the choices named there (logs 6, 7,
39, 41 and 45). -/
def Obligations.NoFingerWhileFingersOff : Prop :=
  ∀ (sf : Surface) (s : State) (f : Frame) (st : FrameStart), s.regs.state = .running ∨ s.regs.state = .doze →
    (surfaceOf s sf).processing = some { frame := f, start := some st } → st.work = .track →
    (surfaceOf s sf).publisher.handed = [] →
    ∃ t mid fin, exec (.frameProcessingEnd sf) s = .next t ∧ TrackedFrame sf s f st t mid fin ∧
      (∀ (i : Nat) (k k' : Contact), mid[i]? = some k → fin[i]? = some k' →
        ClassMoves sf st.snap.values st.view (fin.take i ++ mid.drop (i + 1)) k k') ∧
      (st.view.enable = false → (∀ k ∈ (surfaceOf s sf).table, RetractedIsFinal k) →
        ∀ k ∈ (surfaceOf t sf).table, k.cls ≠ .finger)

/-- A zone place that is present with WAKE and holds a point (R191). -/
def WakesAt (z : Option Zone) (p : Pt) : Prop :=
  ∃ w ∈ z, w.flags.wake = true ∧ (w.x0 : Int) ≤ p.x ∧ p.x ≤ w.x1 ∧ (w.y0 : Int) ≤ p.y ∧ p.y ≤ w.y1

/-- A WATCH frame in DOZE: a wake frame raises the wake run count, saturating at 8, any other frame
sets it to 0; a run of wake_frames is reported once, as the WAKE cause and a WAKE event of cause TOUCH
with the surface and the frame's timestamp (R191, R192); the held events are drained at the frame's end
(R182). -/
def Obligations.DozeWatchCountsWakeFrames : Prop :=
  ∀ (sf : Surface) (s : State) (f : Frame) (st : FrameStart), s.regs.state = .doze →
    (surfaceOf s sf).processing = some { frame := f, start := some st } → st.work = .watch →
    let p := sectionOf sf st.snap.values
    let wakes : Prop := ∃ b ∈ (extractOn sf p f.cells).1, ∃ z ∈ st.zones.places.take st.zones.count,
      WakesAt z (mapPoint p.mapping b.centroid).1
    let run := min ((surfaceOf s sf).wakeRun + 1) 8
    let found : Prop := wakes ∧ st.snap.values.shared.wakeFrames ≤ run ∧ s.wakeReported = false
    ∃ t, exec (.frameProcessingEnd sf) s = .next t ∧
      (wakes → (surfaceOf t sf).wakeRun = run) ∧ (¬wakes → (surfaceOf t sf).wakeRun = 0) ∧
      (found → t.wakeReported = true ∧ t.regs = { s.regs with causes := s.regs.causes ||| 0x20#7 } ∧
        t.events = (drainEvents (handEvents s
          [{ kind := .wake, type := 1, fingers := if sf = .pad then 1 else 2, outcome := 0, inst := 0, steps := 0
             dx := 0, dy := 0, span := 0, time := f.time }])).events) ∧
      (¬found → t.wakeReported = s.wakeReported ∧ t.regs = s.regs ∧ t.events = (drainEvents s).events) ∧
      t = { withSurface s sf (surfaceOf t sf) with wakeReported := t.wakeReported, regs := t.regs, events := t.events } ∧
      (surfaceOf t sf).table = (surfaceOf s sf).table ∧ (surfaceOf t sf).state = (surfaceOf s sf).state

/-! ### Positions, blobs, ids -/

/-- The octagonal distance of two points (R25), and the mapping of a point (R27 to R30): floor of the scaled
difference, the limit with its clamped indication, the flip, the swap; and every coordinate lies in the output
range. -/
def Obligations.MappedPointFollowsRules : Prop :=
  (∀ a b : Pt, ptDist a b = octagonal a b) ∧
  ∀ (p : MapParams) (i : Pt),
    let mx := (i.x - p.originX) * p.gainX / 65536
    let my := (i.y - p.originY) * p.gainY / 65536
    let lx : Int := if mx < 0 then 0 else if p.outMaxX < mx then p.outMaxX else mx
    let ly : Int := if my < 0 then 0 else if p.outMaxY < my then p.outMaxY else my
    let fx := if p.flipX then p.outMaxX - lx else lx
    let fy := if p.flipY then p.outMaxY - ly else ly
    (mapPoint p i).1 = (if p.swap then { x := fy, y := fx } else { x := fx, y := fy }) ∧
    ((mapPoint p i).2 = true ↔ lx ≠ mx ∨ ly ≠ my) ∧
    (0 ≤ (mapPoint p i).1.x ∧ (mapPoint p i).1.x ≤ (if p.swap then p.outMaxY else p.outMaxX)) ∧
    (0 ≤ (mapPoint p i).1.y ∧ (mapPoint p i).1.y ≤ (if p.swap then p.outMaxX else p.outMaxY))

/-- A lit cell of a frame (R15): its value, a negative one being 0, is at or above touch_threshold. -/
def IsLit (sf : Surface) (p : SurfaceParams) (cells : List Int) (c : LitCell) : Prop :=
  ∃ (i : Nat) (v : Int), cells[i]? = some v ∧ p.touchThreshold ≤ (max 0 v).toNat ∧
    c = { col := i % Config.cols sf, row := i / Config.cols sf, value := (max 0 v).toNat }

/-- Two cells that share a side (R16). -/
def SideBySide (a b : LitCell) : Prop :=
  (a.row = b.row ∧ (a.col + 1 = b.col ∨ b.col + 1 = a.col)) ∨
    (a.col = b.col ∧ (a.row + 1 = b.row ∨ b.row + 1 = a.row))

/-- A path of lit cells, each sharing a side with the one before it (R16). -/
def LitPath (sf : Surface) (p : SurfaceParams) (cells : List Int) : LitCell → LitCell → Prop :=
  Relation.ReflTransGen fun a b => SideBySide a b ∧ IsLit sf p cells b

/-- The components of a frame (R16): every lit cell stands in exactly one, once, and two stand in the same one
exactly when a path joins them. -/
def AreComponents (sf : Surface) (p : SurfaceParams) (cells : List Int) (parts : List (List LitCell)) : Prop :=
  (∀ c, IsLit sf p cells c ↔ ∃ k ∈ parts, c ∈ k) ∧ parts.flatten.Nodup ∧ [] ∉ parts ∧
    ∀ k ∈ parts, ∀ a ∈ k, ∀ b, b ∈ k ↔ LitPath sf p cells a b

/-- A value that some cell of a list has and none is below. -/
def LeastOver (k : List LitCell) (of : LitCell → Nat) (n : Nat) : Prop := (∃ c ∈ k, of c = n) ∧ ∀ c ∈ k, n ≤ of c

/-- A value that some cell of a list has and none is above. -/
def GreatestOver (k : List LitCell) (of : LitCell → Nat) (n : Nat) : Prop := (∃ c ∈ k, of c = n) ∧ ∀ c ∈ k, of c ≤ n

/-- The blob record of a component (Table 1-6, R16, R19 to R22), but for its index. -/
def IsBlobOf (sf : Surface) (p : SurfaceParams) (k : List LitCell) (b : Blob) : Prop :=
  let weight (c : LitCell) : Nat := if p.squared = true then c.value * c.value else c.value
  LeastOver k (fun c => c.row * Config.cols sf + c.col) b.raster ∧
  b.area = k.length ∧ b.signal = (k.map fun c => c.value).sum ∧ GreatestOver k (fun c => c.value) b.peak ∧
  LeastOver k (fun c => c.col) b.minCol ∧ GreatestOver k (fun c => c.col) b.maxCol ∧
  LeastOver k (fun c => c.row) b.minRow ∧ GreatestOver k (fun c => c.row) b.maxRow ∧
  (b.edge = true ↔ b.minCol = 0 ∨ b.minRow = 0 ∨ b.maxCol = Config.cols sf - 1 ∨ b.maxRow = Config.rows sf - 1) ∧
  b.sumW = (k.map weight).sum ∧ b.sumX = (k.map fun c => weight c * c.col).sum ∧
  b.sumY = (k.map fun c => weight c * c.row).sum ∧
  b.centroid = { x := ((256 * b.sumX / b.sumW : Nat) : Int), y := ((256 * b.sumY / b.sumW : Nat) : Int) } ∧
  b.flat = max 1 (b.peak * 256 / b.signal)

/-- Blob extraction of a frame (R15 to R22). The components of at least min_area cells are the candidates (R16,
R17). Up to the blob limit all are kept, and above it those of the greatest signal, at equal signal those of
the lower raster index (R18); the number dropped is the rest. The kept blobs stand in raster order, numbered
from 0, each with the record of its component. And a blob's centroid lies within its bounding box (R21). -/
def Obligations.CentroidWithinBoundingBox : Prop :=
  (∀ (sf : Surface) (p : SurfaceParams) (cells : List Int),
    let kept := (extractOn sf p cells).1
    let dropped := (extractOn sf p cells).2
    let limit := if sf = .pad then 8 else 16
    ∃ parts, AreComponents sf p cells parts ∧
      (let big := parts.filter fun k => decide (p.minArea ≤ k.length)
       kept.length = min limit big.length ∧ dropped = big.length - limit ∧
       (∀ b ∈ kept, ∃ k ∈ big, IsBlobOf sf p k b) ∧
       (∀ k ∈ big, (∃ b ∈ kept, IsBlobOf sf p k b) ∨
         ∀ b ∈ kept, (k.map fun c => c.value).sum < b.signal ∨
           ((k.map fun c => c.value).sum = b.signal ∧
             ∀ c ∈ k, b.raster < c.row * Config.cols sf + c.col)) ∧
       (kept.Pairwise fun a b => a.raster < b.raster) ∧
       ∀ (i : Nat) (b : Blob), kept[i]? = some b → b.index = i)) ∧
  ∀ (cols rows : Nat) (squared : Bool) (cells : List LitCell), cells ≠ [] → (∀ c ∈ cells, 1 ≤ c.value) →
    let b := blobOf cols rows squared cells
    ((b.minCol * 256 : Nat) : Int) ≤ b.centroid.x ∧ b.centroid.x ≤ ((b.maxCol * 256 : Nat) : Int) ∧
    ((b.minRow * 256 : Nat) : Int) ≤ b.centroid.y ∧ b.centroid.y ≤ ((b.maxRow * 256 : Nat) : Int)

/-- The allocator gives the first id from the pointer on, in 1..63 with 63 followed by 1, that is not
held, and one is found whenever fewer than 63 are held (R53, R54). -/
def Obligations.AllocatedIdIsFirstFree : Prop :=
  ∀ (pointer : Nat) (held : List Nat), 1 ≤ pointer → pointer ≤ 63 → held.length < 63 →
    let i := allocateId pointer held
    1 ≤ i ∧ i ≤ 63 ∧ i ∉ held ∧
    (∀ k, k < (i + 63 - pointer) % 63 → (pointer - 1 + k) % 63 + 1 ∈ held) ∧
    nextId i = (if i = 63 then 1 else i + 1)

/-! ### Pen -/

/-- A malformed record is discarded, and counted in RUNNING or DOZE with the channel open; a sample
taken in OFF, in HALTED or with the channel closed is discarded without count (R93, R94, R109). -/
def Obligations.MalformedRecordsCounted : Prop :=
  ∀ (r : PenRecord) (s : State),
    let bad : Prop := r.length ≠ .exact ∨ r.checkOk = false ∨ r.tool = .other ∨
      r.tiltX < -90 ∨ 90 < r.tiltX ∨ r.tiltY < -90 ∨ 90 < r.tiltY
    let heard : Prop := (s.regs.state = .running ∨ s.regs.state = .doze) ∧ s.pen.isOpen = true
    (bad → heard → exec (.penRecord r) s =
      .next { s with pen := { s.pen with linkErrors := oneMore s.pen.linkErrors } }) ∧
    (¬heard → exec (.penRecord r) s = .next s)

/-- A PEN_BUTTON event (R106): edge 1 is PRESSED, 2 RELEASED. -/
def penButton (button : Nat) (pressed : Bool) (time : Time) : Event :=
  { kind := .penButton, type := button, fingers := 0, outcome := if pressed then 1 else 2, inst := 0, steps := 0
    dx := 0, dy := 0, span := 0, time := time }

/-- The events of the buttons whose values a sample changes, button 1 first (R106). -/
def buttonChanges (c : PenChannel) (button1 button2 : Bool) (time : Time) : List Event :=
  (if button1 = c.button1 then [] else [penButton 1 button1 time]) ++
    (if button2 = c.button2 then [] else [penButton 2 button2 time])

/-- The samples handed over of an in-range sample that leaves the pen in a state (R102 to R105): that
sample, and before it, at a tool change in TOUCH, the lift sample with the old tool and TIP_UP (R100), whose
buttons and CLAMPED are the model's reading (log 16). -/
def takenSamples (s : State) (r : PenRecord) (next : PenState) : List PenSample :=
  let bank := s.screen.bankInForce
  let q := (bankOf s.posture bank).pen
  let m := mapPoint q.mapping { x := r.x.toNat, y := r.y.toNat }
  let tool : Tool := if r.tool = .eraser then .eraser else .pen
  let tilt (v : Int) : Int := max (-60) (min 60 v)
  let clamped := m.2 || decide (r.tiltX < -60 ∨ 60 < r.tiltX ∨ r.tiltY < -60 ∨ 60 < r.tiltY)
  let touching : Bool := s.pen.state == .touch
  let changed : Bool := touching && tool != s.pen.tool
  let taken : PenSample :=
    { state := next, tool := tool, button1 := r.button1, button2 := r.button2, pos := m.1, bank := bank
      pressure := if next = .touch then pressureCurve q r.pressure.toNat else 0
      tiltX := tilt r.tiltX, tiltY := tilt r.tiltY, hover := r.hover
      flags := { enteredRange := s.pen.state == .away, tipDown := next == .touch && !touching
                 tipUp := touching && !changed && next == .hover, leftRange := false, timedOut := false
                 clamped := clamped }
      time := s.clock }
  let lift : PenSample :=
    { taken with
      state := .hover, tool := s.pen.tool, button1 := s.pen.button1, button2 := s.pen.button2, pressure := 0
      flags := { enteredRange := false, tipDown := false, tipUp := true, leftRange := false, timedOut := false
                 clamped := clamped } }
  if changed then [lift, taken] else [taken]

/-- The pressure curve runs from knot to knot (R39), the knots of the bank in order (R38). -/
def CurveRuns (q : PenParams) : Prop :=
  let knots : List (Nat × Nat) :=
    [(0, q.knotY0), (q.knotX1, q.knotY1), (q.knotX2, q.knotY2), (q.knotX3, q.knotY3), (4095, q.knotY4)]
  (knots.Pairwise fun a b => a.1 < b.1 ∧ a.2 ≤ b.2) →
    ∀ (i p : Nat) (a b : Nat × Nat), knots[i]? = some a → knots[i + 1]? = some b → a.1 ≤ p →
      p < b.1 ∨ (i = 3 ∧ p = 4095) → pressureCurve q p = a.2 + (p - a.1) * (b.2 - a.2) / (b.1 - a.1)

/-- The pressure curve (R39), and an in-range sample taken in RUNNING or DOZE (R94 to R96, R100 to R106): the
state by the tip thresholds, a tool change in TOUCH giving HOVER; the guard ON, one more activation from
AWAY; the timeout restarted, the linger cancelled; tool, buttons, last sample and last mapped position
taken. In RUNNING the Publisher is handed the sample, the lift sample before it at a tool change, and the
changed buttons' events; in DOZE nothing is published of it, and it is a wake cause PEN, reported while no
cause has been (R191, R192). The lift sample's buttons are the model's reading (log 16). -/
def Obligations.InRangeSampleTaken : Prop :=
  (∀ q : PenParams, CurveRuns q) ∧
  ∀ (r : PenRecord) (s : State), s.regs.state = .running ∨ s.regs.state = .doze → s.pen.isOpen = true →
    isMalformed r = false → r.inRange = true →
    let q := (bankOf s.posture s.screen.bankInForce).pen
    let tool : Tool := if r.tool = .eraser then .eraser else .pen
    let m := mapPoint q.mapping { x := r.x.toNat, y := r.y.toNat }
    let wakes : Prop := s.regs.state = .doze ∧ s.wakeReported = false
    ∃ t, exec (.penRecord r) s = .next t ∧
      t = { s with pen := t.pen, penOut := t.penOut, events := t.events, regs := t.regs
                   wakeReported := t.wakeReported } ∧
      (s.regs.state = .running →
        t.penOut = (handSamples s (takenSamples s r t.pen.state)).penOut ∧
        t.events = (handEvents s (buttonChanges s.pen r.button1 r.button2 s.clock)).events) ∧
      (s.regs.state = .doze → t.penOut = s.penOut) ∧
      (wakes → t.wakeReported = true ∧ t.regs = { s.regs with causes := s.regs.causes ||| 0x20#7 } ∧
        t.events = (handEvents s
          [{ kind := .wake, type := 2, fingers := 0, outcome := 0, inst := 0, steps := 0
             dx := 0, dy := 0, span := 0, time := s.clock }]).events) ∧
      (¬wakes → t.wakeReported = s.wakeReported ∧ t.regs = s.regs ∧
        (s.regs.state = .doze → t.events = s.events)) ∧
      t.pen = { s.pen with
        state := if s.pen.state = .touch then
            (if tool ≠ s.pen.tool ∨ r.pressure.toNat < q.tipOff then .hover else .touch)
          else if q.tipOn ≤ r.pressure.toNat then .touch else .hover
        guardOn := true
        count := if s.pen.state = .away then s.pen.count + 1 else s.pen.count
        timeout := some (s.clock + BitVec.ofNat 48 q.timeout)
        linger := none
        tool := tool
        button1 := r.button1
        button2 := r.button2
        last := some {
          pos := m.1, bank := s.screen.bankInForce, tiltX := max (-60) (min 60 r.tiltX)
          tiltY := max (-60) (min 60 r.tiltY), hover := r.hover, tool := tool, button1 := r.button1
          button2 := r.button2, time := s.clock
          clamped := m.2 || decide (r.tiltX < -60 ∨ 60 < r.tiltX ∨ r.tiltY < -60 ∨ 60 < r.tiltY) }
        lastPos := some (m.1, s.screen.bankInForce) }

/-- The pen out of range (R97, R98): LINGER with the linger deadline set, the buttons released and the
guard staying ON; with pen_linger_us = 0 the deadline expires at once, and the pen is AWAY with the guard
OFF (R99). -/
def lingering (c : PenChannel) (now : Time) (linger : Nat) : PenChannel :=
  if linger = 0 then
    { c with state := .away, button1 := false, button2 := false, timeout := none, linger := none, guardOn := false }
  else
    { c with
      state := .linger, button1 := false, button2 := false, timeout := none
      linger := some (now + BitVec.ofNat 48 linger) }

/-- The LINGER-entering or final sample (R97, R98, R103): the last sample's position, bank, tilts and hover
height, pressure 0 and the buttons released; a final sample with TIMED_OUT and never CLAMPED. Without a last
sample there is none (log 32). -/
def leavingSamples (c : PenChannel) (time : Time) (timedOut : Bool) : List PenSample :=
  match c.last with
  | some l =>
    [{ state := .linger, tool := c.tool, button1 := false, button2 := false, pos := l.pos, bank := l.bank
       pressure := 0, tiltX := l.tiltX, tiltY := l.tiltY, hover := l.hover
       flags := { enteredRange := false, tipDown := false, tipUp := c.state == .touch, leftRange := true
                  timedOut := timedOut, clamped := !timedOut && l.clamped }
       time := time }]
  | none => []

/-- What a pen that leaves range hands over in RUNNING (R104, R106): the releases of its buttons and its
leaving sample; outside RUNNING nothing. -/
def LeavingHandedOver (s t : State) (timedOut : Bool) : Prop :=
  (s.regs.state = .running →
    t.penOut = (handSamples s (leavingSamples s.pen s.clock timedOut)).penOut ∧
    t.events = (handEvents s (buttonChanges s.pen false false s.clock)).events) ∧
  (s.regs.state ≠ .running → t.penOut = s.penOut ∧ t.events = s.events)

/-- The pen leaves range, by a sample with in_range clear (R97) or by the pen timeout's expiry at its
deadline (R98): in RUNNING the buttons held are released with their events and the leaving sample is
handed over, in DOZE nothing is (R103, R104, R106); an expiry is counted. A sample with in_range clear in
AWAY or LINGER changes nothing (R97). Without a last sample none is handed over (log 32).
The linger time is in its parameter's range, 0 to 5,000,000 (Table 7-4); at 0 the deadline expires at
once. At the linger deadline the pen is AWAY and the guard OFF, and nothing is published (R99). -/
def Obligations.PenLeavesRange : Prop :=
  (∀ (r : PenRecord) (s : State),
    let linger := (bankOf s.posture s.screen.bankInForce).pen.linger
    s.regs.state = .running ∨ s.regs.state = .doze → s.pen.isOpen = true → isMalformed r = false →
    r.inRange = false → s.pen.state = .hover ∨ s.pen.state = .touch → linger ≤ 5000000 →
    ∃ t, exec (.penRecord r) s = .next t ∧
      t = { s with pen := t.pen, penOut := t.penOut, events := t.events } ∧
      t.pen = lingering s.pen s.clock linger ∧ LeavingHandedOver s t false) ∧
  (∀ (r : PenRecord) (s : State), isMalformed r = false → r.inRange = false →
    s.pen.state = .away ∨ s.pen.state = .linger →
    ∃ t, exec (.penRecord r) s = .next t ∧ t = { s with penOut := t.penOut, events := t.events } ∧
      (s.penOut.handed = [] ∨ s.penOut.access ≠ .none → t.penOut = s.penOut) ∧
      (s.events.handed = [] ∨ s.events.access ≠ .none → t.events = s.events)) ∧
  (∀ s : State,
    let linger := (bankOf s.posture s.screen.bankInForce).pen.linger
    s.pen.timeout = some s.clock → linger ≤ 5000000 →
    ∃ t, exec .penTimeoutExpiry s = .next t ∧
      t = { s with pen := t.pen, penOut := t.penOut, events := t.events } ∧
      t.pen = { lingering s.pen s.clock linger with timeouts := oneMore s.pen.timeouts } ∧
      LeavingHandedOver s t true) ∧
  (∀ s : State, s.pen.linger = some s.clock →
    exec .lingerExpiry s = .next { s with pen := { s.pen with state := .away, linger := none, guardOn := false } })

/-! ### KEYACT and the other deadlines -/

/-- R189: a rising edge in RUNNING or DOZE restarts the typing guard, in OFF and HALTED it has no
effect beyond the detector's level; a falling edge is recorded; the expiry ends the guard and
publishes nothing. With a typing_guard_us of 0 the deadline expires at once after the edge. -/
def Obligations.KeyactEdgesRunTypingGuard : Prop :=
  (∀ s : State, s.inputs.level = false → s.regs.state = .running ∨ s.regs.state = .doze →
    let guard := (bankOf s.posture s.pad.bankInForce).padOnly.typingGuard
    guard ≤ 2000000 →
    exec .keyactRisingEdge s = .next { s with inputs :=
      { level := true, typing := if guard = 0 then none else some (s.clock + BitVec.ofNat 48 guard) } }) ∧
  (∀ s : State, s.inputs.level = false → s.regs.state = .off ∨ s.regs.state = .halted →
    exec .keyactRisingEdge s = .next { s with inputs := { s.inputs with level := true } }) ∧
  (∀ s : State, exec .keyactFallingEdge s = .next { s with inputs := { s.inputs with level := false } }) ∧
  (∀ s : State, s.inputs.typing = some s.clock →
    exec .typingGuardExpiry s = .next { s with inputs := { s.inputs with typing := none } })

/-- The pending tap's expiry publishes the tap and removes it (R134); the drag lock's expiry ends the
DRAG with COMPLETED and the member count (R139, R140). With the event strip idle and open, the event
is the one offered to it. An expiry is a command of its own (log 4). -/
def Obligations.TapAndDragLockExpire : Prop :=
  (∀ (s : State) (p : PendingTap), s.gestures.tap = some p → p.deadline = s.clock →
    ∃ t, exec .pendingTapExpiry s = .next t ∧
      t = { s with gestures := { s.gestures with tap := none }, events := t.events } ∧
      (s.regs.fenced.events = false → s.events.access = .none → s.events.handed = [] →
        t.events = { s.events with access := (.reading
          (some { kind := .tap, type := 1, fingers := p.fingers, outcome := 0, inst := 0, steps := 0,
                  dx := p.pos.x, dy := p.pos.y, span := 0, time := p.lift }) s.clock) })) ∧
  (∀ (s : State) (v : Service), s.gestures.service = some v → v.lock = some s.clock →
    ∃ t, exec .dragLockExpiry s = .next t ∧
      t = { s with gestures := { s.gestures with service := none }, events := t.events } ∧
      (s.regs.fenced.events = false → s.events.access = .none → s.events.handed = [] →
        t.events = { s.events with access := (.reading
          (some { kind := .gestureEnd, type := gestureCode v.gesture, fingers := v.members.length, outcome := 1,
                  inst := v.inst, steps := v.steps, dx := 0, dy := 0, span := 0, time := s.clock }) s.clock) }))

/-! ### The Gesture Engine's frame work (R113) -/

/-- The next instance number (R123). -/
def instanceAfter (n : Nat) : Nat := if n = 255 then 1 else n + 1

/-- A value limited to 16 bits with sign at the generation of an event (R140). -/
def limited16 (v : Int) : Int := max (-32768) (min 32767 v)

/-- GESTURE_BEGIN and GESTURE_STEP of a gesture (Table 6-6). -/
def movingEvent (kind : EventKind) (v : Service) (steps : Nat) (motion : Pt) (span : Int) (time : Time) : Event :=
  { kind := kind, type := gestureCode v.gesture, fingers := v.members.length, outcome := 0, inst := v.inst
    steps := steps, dx := limited16 motion.x, dy := limited16 motion.y, span := limited16 span, time := time }

/-- TAP (Table 6-6). -/
def tapped (fingers : Nat) (pos : Pt) (lift : Time) : Event :=
  { kind := .tap, type := 1, fingers := fingers, outcome := 0, inst := 0, steps := 0, dx := pos.x, dy := pos.y
    span := 0, time := lift }

/-- The finger set (R112). -/
def fingersOf (f : GestureInput) : List Contact := f.contacts.filter fun k => k.cls == .finger && k.state != .ended

/-- The touching set (R112). -/
def touchingOf (f : GestureInput) : List Contact := f.contacts.filter fun k => k.cls == .finger

/-- Whether members are the fingers of a frame and no other (R118, R125). -/
def AreFingers (f : GestureInput) (members : List (Nat × Pt)) : Prop :=
  ∀ i, i ∈ (fingersOf f).map (·.id) ↔ i ∈ members.map (·.1)

/-- The truncated mean of the members' motion since the positions they hold (R119, R125). -/
def meanMotion (f : GestureInput) (members : List (Nat × Pt)) : Pt :=
  { x := Int.tdiv (members.map fun m => (memberPos f m).x - m.2.x).sum members.length
    y := Int.tdiv (members.map fun m => (memberPos f m).y - m.2.y).sum members.length }

/-- The span of a list of positions: the octagonal distance of the first two (R119). -/
def firstSpan : List Pt → Nat
  | a :: b :: _ => ptDist a b
  | _ => 0

/-- What stage 1 makes of a gesture whose member became ENDED (R127, R138): a DRAG with a lock time goes
into drag lock, without an event; every other gesture ends with COMPLETED. -/
def memberEnded (f : GestureInput) (v : Service) (w : GestureWork) : GestureWork :=
  if v.gesture = .drag ∧ f.params.dragLock ≠ 0 then
    let locked : Service := { v with members := [], lock := some (f.time + BitVec.ofNat 48 f.params.dragLock) }
    { w with engine := { w.engine with service := some locked } }
  else { w with engine := { w.engine with service := none }, events := w.events ++ [gestureEnded v 1 f.time] }

/-- A gesture granted (R122, R123, R136): the next instance, its members at their positions, a step count
of 0, and its GESTURE_BEGIN. -/
def granted (f : GestureInput) (gesture : Gesture) (members : List (Nat × Pt)) (motion : Pt) (span : Int)
    (w : GestureWork) : GestureWork :=
  let v : Service :=
    { gesture := gesture, inst := instanceAfter w.engine.counter, members := members
      lastSpan := if gesture = .pinch then firstSpan (members.map (·.2)) else 0, steps := 0, lock := none }
  { engine := { w.engine with service := some v, counter := instanceAfter w.engine.counter }
    events := w.events ++ [movingEvent .gestureBegin v 0 motion span f.time], granted := true }

/-- A DRAG in drag lock (R138). -/
def LockedDrag (v : Service) : Prop := v.gesture = .drag ∧ v.members = [] ∧ v.lock.isSome = true

/-- Stage 1 (R113, R127, R128, R138): a retracted member ends the gesture with VOIDED; failing that, a
member that became ENDED ends it or puts it into drag lock. -/
def EndsStage : Prop :=
  ∀ (f : GestureInput) (w : GestureWork),
    (w.engine.service = none → stageEnds f w = w) ∧
    ∀ v, w.engine.service = some v →
      let retracted : Prop := ∃ m ∈ v.members, m.1 ∈ f.retracted
      let ended : Prop := ∃ m ∈ v.members, ∃ k, contactOf f m.1 = some k ∧ k.state = .ended
      (retracted → stageEnds f w =
        { w with engine := { w.engine with service := none }, events := w.events ++ [gestureEnded v 3 f.time] }) ∧
      (¬retracted → ended → stageEnds f w = memberEnded f v w) ∧
      (¬retracted → ¬ended → stageEnds f w = w)

/-- Stage 2 (R115, R136, R138, R139), with the oldest contact of the confirmation list: it joins a DRAG in
drag lock; it opens a sequence where none is open; and it meets the drag test where a tap is pending. -/
def ConfirmationsStage : Prop :=
  ∀ (f : GestureInput) (w : GestureWork),
    (f.confirmed = [] → stageConfirmations f w = w) ∧
    ∀ (i : Nat) (k : Contact) (down : Pt), f.confirmed.head? = some i → contactOf f i = some k → k.down = some down →
      let opened : Sequence := { start := k.entered, first := k.id, tapPos := down, firstZone := k.zoneFlags
                                 maxFingers := 1, maxDisp := 0, granted := false, retracted := false }
      let opens (x : GestureWork) : GestureWork :=
        { x with engine := { x.engine with sequence := some (x.engine.sequence.getD opened) } }
      (∀ v, w.engine.service = some v → LockedDrag v → w.engine.sequence.isSome = true ∨ w.engine.tap = none →
        let joined : Service := { v with members := [(k.id, k.filtered)], lock := none }
        let x : GestureWork := { w with engine := { w.engine with service := some joined }, granted := true }
        stageConfirmations f w = opens (if k.state = .ended then memberEnded f joined x else x)) ∧
      ((∀ v, w.engine.service = some v → ¬LockedDrag v) →
        (w.engine.sequence.isSome = true ∨ w.engine.tap = none ∨ k.state = .ended →
          stageConfirmations f w = opens w) ∧
        ∀ p, w.engine.sequence = none → w.engine.tap = some p → k.state ≠ .ended →
          let rest : GestureWork := { opens w with engine := { (opens w).engine with tap := none } }
          (ptDist down p.pos ≤ f.params.dragRadius → stageConfirmations f w =
            granted f .drag [(k.id, k.filtered)] { x := 0, y := 0 } 0 rest) ∧
          (f.params.dragRadius < ptDist down p.pos → stageConfirmations f w =
            { rest with events := w.events ++ [tapped p.fingers p.pos p.lift] }))

/-- Stage 3 (R118): the reference set is kept while the fingers stay the same, and retaken else. -/
def ReferenceStage : Prop :=
  ∀ (f : GestureInput) (w : GestureWork),
    let members := (fingersOf f).map fun k => (k.id, k.filtered)
    let retaken : Reference :=
      { members := members, span0 := if members.length = 2 then some (firstSpan (members.map (·.2))) else none }
    (AreFingers f w.engine.reference.members → stageReference f w = w) ∧
    (¬AreFingers f w.engine.reference.members →
      stageReference f w = { w with engine := { w.engine with reference := retaken } })

/-- Stage 4 (R119, R120, R122, R124): the claim of the frame, if it raises one, is granted into an empty
place above the floor, and preempts a gesture of lower priority whose members it all holds; else it is
discarded. -/
def ClaimsStage : Prop :=
  ∀ (f : GestureInput) (w : GestureWork),
    let n := (fingersOf f).length
    let members := (fingersOf f).map fun k => (k.id, k.filtered)
    let mean := meanMotion f w.engine.reference.members
    let common := octDist mean.x mean.y
    let change : Int := (firstSpan (members.map (·.2)) : Int) - ((w.engine.reference.span0.getD 0 : Nat) : Int)
    let Raised (g : Gesture) (span : Int) : Prop :=
      (g = .pinch ∧ n = 2 ∧ f.params.pinchStart ≤ change.natAbs ∧ span = change) ∨
      (g = .scroll ∧ n = 2 ∧ f.params.scrollStart ≤ common ∧ change.natAbs < f.params.pinchStart ∧ span = 0) ∨
      (g = .swipe3 ∧ n = 3 ∧ f.params.swipeStart ≤ common ∧ span = 0) ∨
      (g = .swipe4 ∧ n = 4 ∧ f.params.swipeStart ≤ common ∧ span = 0)
    ((∀ g span, ¬Raised g span) → stageClaims f w = w) ∧
    ∀ g span, Raised g span →
      (w.engine.service = none →
        (f.params.gestureFloor < priority g → stageClaims f w = granted f g members mean span w) ∧
        (priority g ≤ f.params.gestureFloor → stageClaims f w = w)) ∧
      ∀ v, w.engine.service = some v →
        let keeps : Prop := ∀ m ∈ v.members, m.1 ∈ members.map (·.1)
        (priority v.gesture < priority g → keeps → stageClaims f w = granted f g members mean span
          { w with engine := { w.engine with service := none }, events := w.events ++ [gestureEnded v 2 f.time] }) ∧
        (priority g ≤ priority v.gesture ∨ ¬keeps → stageClaims f w = w)

/-- Stage 5 (R125, R126): a gesture neither granted nor joined in the frame, with its members the fingers
and no other, generates its step where its motion or a PINCH's span delta is not 0; the members' last
positions and a PINCH's last span are brought up to date in any case. -/
def StepsStage : Prop :=
  ∀ (f : GestureInput) (w : GestureWork),
    (w.engine.service = none → stageSteps f w = w) ∧
    ∀ v, w.engine.service = some v →
      let now := v.members.map fun m => (m.1, memberPos f m)
      let motion := meanMotion f v.members
      let span : Int := if v.gesture = .pinch then (firstSpan (now.map (·.2)) : Int) - (v.lastSpan : Int) else 0
      let steps : Prop := w.granted = false ∧ v.members ≠ [] ∧ AreFingers f v.members ∧
        (motion ≠ { x := 0, y := 0 } ∨ span ≠ 0)
      let updated : Service :=
        { v with members := now, lastSpan := if v.gesture = .pinch then firstSpan (now.map (·.2)) else v.lastSpan }
      (steps → stageSteps f w =
        { w with
          engine := { w.engine with service := some { updated with steps := min (v.steps + 1) 65535 } }
          events := w.events ++ [movingEvent .gestureStep v 1 motion span f.time] }) ∧
      (¬steps → stageSteps f w = { w with engine := { w.engine with service := some updated } })

/-- Stage 6 (R116, R117, R132, R133): the open sequence takes the frame's counts and displacement; it stays
open while there are fingers, and closes with the last; a tap recognised publishes the pending tap first,
and becomes the pending tap with one finger, or is published with two or three. -/
def SequenceStage : Prop :=
  ∀ (f : GestureInput) (w : GestureWork),
    (w.engine.sequence = none → stageSequence f w = w) ∧
    ∀ q, w.engine.sequence = some q →
      let q' : Sequence := { q with
        maxFingers := max q.maxFingers (touchingOf f).length
        maxDisp := ((touchingOf f).map fun k => k.maxDisp.getD 0).foldl max q.maxDisp
        retracted := q.retracted || !f.retracted.isEmpty
        granted := q.granted || w.granted }
      let tap : Prop := q'.granted = false ∧ q'.retracted = false ∧ (f.time - q.start).toNat ≤ f.params.tapTime ∧
        q'.maxDisp ≤ f.params.tapSlop ∧ 1 ≤ q'.maxFingers ∧ q'.maxFingers ≤ 3 ∧ q.firstZone.noTap = false ∧
        f.typing = false ∧ f.params.gestureFloor = 0
      let before : List Event := match w.engine.tap with
        | some p => [tapped p.fingers p.pos p.lift]
        | none => []
      (fingersOf f ≠ [] → stageSequence f w = { w with engine := { w.engine with sequence := some q' } }) ∧
      (fingersOf f = [] → ¬tap → stageSequence f w = { w with engine := { w.engine with sequence := none } }) ∧
      (fingersOf f = [] → tap → q'.maxFingers = 1 → stageSequence f w =
        { w with
          engine := { w.engine with
            sequence := none
            tap := some { fingers := 1, pos := q.tapPos, lift := f.time
                          deadline := f.time + BitVec.ofNat 48 f.params.dragWindow } }
          events := w.events ++ before }) ∧
      (fingersOf f = [] → tap → q'.maxFingers ≠ 1 → stageSequence f w =
        { w with
          engine := { w.engine with sequence := none, tap := none }
          events := w.events ++ before ++ [tapped q'.maxFingers q.tapPos f.time] })

/-- The frame work of the Gesture Engine (R113), with the priorities of Table 6-2: its six stages in order, each on what the one before left,
what each of them does, and after them the expiry of a pending tap or drag lock whose deadline the Clock has
reached (R134, R139; which deadlines count as reached is the model's reading, logs 4 and 5). With no tap
pending a gesture in service so stays in service, the same gesture under the same instance, or the frame
generates its GESTURE_END, and the instance counter stays or moves to the next values, 255 being followed
by 1. That the work is done in DOZE too, for a frame in processing when SLEEP is taken, is the model's choice
(log 41). -/
def Obligations.GestureInServiceStaysOrEnds : Prop :=
  (∀ (f : GestureInput) (now : Time) (g : GestureEngine),
    let w := stageSequence f (stageSteps f (stageClaims f (stageReference f (stageConfirmations f
      (stageEnds f { engine := g, events := [], granted := false })))))
    let late (t : Time) : Bool := decide ((now - t).toNat < 2 ^ 47)
    let tapLate : Bool := w.engine.tap.any fun p => late p.deadline
    let lockLate : Bool := w.engine.service.any fun v => v.lock.any late
    gestureFrame f now g =
      ({ w.engine with
          tap := if tapLate then none else w.engine.tap
          service := if lockLate then none else w.engine.service },
        w.events ++ (if tapLate then w.engine.tap.toList.map fun p => tapped p.fingers p.pos p.lift else []) ++
          (if lockLate then w.engine.service.toList.map fun v => gestureEnded v 1 now else []))) ∧
  (∀ g : Gesture, priority g = 2 + codeOf [.drag, .scroll, .pinch, .swipe3, .swipe4] g) ∧
  EndsStage ∧ ConfirmationsStage ∧ ReferenceStage ∧ ClaimsStage ∧ StepsStage ∧ SequenceStage ∧
  ∀ (f : GestureInput) (now : Time) (g : GestureEngine) (v : Service), g.service = some v → g.tap = none →
    (∃ w, (gestureFrame f now g).1.service = some w ∧ w.inst = v.inst ∧ w.gesture = v.gesture ∧
      (gestureFrame f now g).1.counter = g.counter) ∨
    (∃ e ∈ (gestureFrame f now g).2, e.kind = .gestureEnd ∧ e.inst = v.inst ∧ e.type = gestureCode v.gesture ∧
      ((gestureFrame f now g).1.counter = g.counter ∨
        (gestureFrame f now g).1.counter = (if g.counter = 255 then 1 else g.counter + 1)))

/-! ### Run control and registers -/

/-- RUN written 0 in RUNNING or DOZE begins a stop (R166, R9): waiting frames are discarded, the
rescan flag is cleared, the run state keeps showing what it was, and a command in flight stays. -/
def Obligations.RunClearBeginsStop : Prop :=
  ∀ s : State, s.regs.state = .running ∨ s.regs.state = .doze → s.regs.run = true → s.regs.stopping = false →
    s.command.inFlight.isSome = true ∨ s.command.pass = none →
    exec .runClear s = .next { s with
      regs := { s.regs with run := false, stopping := true }
      pad := { s.pad with waiting := none }
      screen := { s.screen with waiting := none }
      command := { s.command with rescan := false } }

/-- Outside HALTED: ATTN_MASK takes the value written (R161); a 1 written to a cause bit of STATUS
clears it (R162), and where FAULT is set and among the bits written, what clearing FAULT does is done
too (R197). A REGISTER_WRITE of CONTROL takes RUN, ATTN_MASK and NOTICE in that order (R161), one of
STATUS is the clear of its cause bits, and a write to IDENT, CLOCK_LO or CLOCK_HI is ignored (R160); that
one to an offset without a register is too, and that the single commands are the parts of such a word, is
the model's reading (log 25). In HALTED all are ignored. ATTN is high exactly while an unmasked cause is
set, or in HALTED (R185, R198). -/
def Obligations.MaskAndCauseWrites : Prop :=
  (∀ (s : State) (m : BitVec 7), s.regs.state ≠ .halted →
    exec (.attnMaskWrite m) s = .next { s with regs := { s.regs with mask := m } }) ∧
  (∀ (s : State) (v : BitVec 32), s.regs.state ≠ .halted →
    let cleared := s.regs.causes &&& ~~~(v.extractLsb' 8 7)
    ((s.regs.causes.getLsbD 6 && v.getLsbD 14) = false →
      exec (.statusCauseClear v) s = .next { s with regs := { s.regs with causes := cleared } }) ∧
    ((s.regs.causes.getLsbD 6 && v.getLsbD 14) = true →
      ∃ t, exec .faultClear s = .next t ∧
        exec (.statusCauseClear v) s = .next { t with regs := { t.regs with causes := cleared } })) ∧
  (∀ (s : State) (v : BitVec 32), s.regs.state ≠ .halted →
    (∃ a b, exec (if v.getLsbD 0 then .runSet else .runClear) s = .next a ∧
      exec (.attnMaskWrite (v.extractLsb' 8 7)) a = .next b ∧
      exec (.registerWrite 0x04 v) s = if v.getLsbD 1 then exec .notice b else .next b) ∧
    exec (.registerWrite 0x08 v) s = exec (.statusCauseClear v) s) ∧
  (∀ (s : State) (offset : BitVec 8) (v : BitVec 32),
    s.regs.state = .halted ∨ offset ∉ [0x04#8, 0x08#8, 0x0C#8, 0x10#8] →
    exec (.registerWrite offset v) s = .next s) ∧
  (∀ (s : State) (m : BitVec 7) (v : BitVec 32), s.regs.state = .halted →
    exec (.attnMaskWrite m) s = .next s ∧ exec (.statusCauseClear v) s = .next s) ∧
  (∀ s : State, attn s = true ↔
    s.regs.state = .halted ∨ ∃ i, i < 7 ∧ s.regs.causes.getLsbD i = true ∧ s.regs.mask.getLsbD i = true)

/-- R197: 1 written to FAULT while it is set clears it, reopens every stream and re-arms the fault
record, a write in progress running to its end with the one queued behind it cancelled; a set rescan
flag begins a pass where COMMANDS was fenced (log 22); while FAULT is clear the write does nothing. -/
def Obligations.FaultClearReopensStreams : Prop :=
  (∀ s : State, s.regs.state ≠ .halted → s.regs.causes.getLsbD 6 = true → s.command.rescan = false →
    exec .faultClear s = .next { s with
      regs := { s.regs with causes := s.regs.causes &&& 0x3F#7, fenced := noFences }
      fault := { written := false, later := 0, stored := none
                 write := s.fault.write.map fun w => { w with again := false, stale := true } } }) ∧
  (∀ s : State, s.regs.state = .running ∨ s.regs.state = .doze → s.regs.stopping = false →
    s.regs.causes.getLsbD 6 = true → s.command.rescan = true → s.regs.fenced.commands = true →
    s.command.pass = none →
    ∃ t, exec .faultClear s = .next t ∧ t.regs.fenced = noFences ∧ t.fault.written = false ∧
      t.command = { s.command with
        rescan := false
        pass := some { index := s.command.scan, examined := 0, last := none, since := s.clock } }) ∧
  (∀ s : State, s.regs.causes.getLsbD 6 = false → exec .faultClear s = .next s)

/-! ### The Command Unit -/

/-- The Fault Unit after a failure (R196): the first is stored with the Clock and a count of 0, a later
one is counted; a write of the record begins, or follows the one in progress. That a later one is counted also
while the write in progress is one that a FAULT clear overtook is the model's choice (log 44). -/
def faultAfter (s : State) (stream : Stream) (isWrite : Bool) (offset : Nat) : FaultUnit :=
  let f : FaultUnit := match s.fault.stored with
    | none => { s.fault with
        stored := some { stream := stream, write := isWrite, offset := offset, time := s.clock }, later := 0 }
    | some _ => { s.fault with later := min (s.fault.later + 1) 255 }
  { f with write := match f.write, f.stored with
      | some w, _ => some { w with again := true }
      | none, some x => some { cells := faultCells s.regs x f.later, again := false, stale := false }
      | none, none => none }

/-- A failure reported, its stream not yet fenced (R195). -/
def reported (s : State) (stream : Stream) (isWrite : Bool) (offset : Nat) : State :=
  { s with fault := faultAfter s stream isWrite offset }

/-- A failure reported and its stream fenced (R195). -/
def failed (s : State) (stream : Stream) (isWrite : Bool) (offset : Nat) : State :=
  { reported s stream isWrite offset with regs := { s.regs with fenced := setFence s.regs.fenced stream } }

/-- Whether a record's writes make one at an area offset. -/
def WritesAt (s : State) (offset : BitVec 32) (cells : List Host.Cell) : Prop :=
  ∃ c ∈ cells, c.1 = addressOf s.regs offset.toNat

/-- The image with the writes of a record up to the one that failed (log 18). -/
def landedImage (s : State) (image : List Host.Cell) (offset : BitVec 32) (cells : List Host.Cell) : List Host.Cell :=
  writeBytes image (cells.takeWhile fun c => decide (c.1 ≠ addressOf s.regs offset.toNat))

/-- The scan position when a pass ends (R170): after the last record taken, else where it was. -/
def scanEnds (s : State) (last : Option Nat) : Nat :=
  match last with
  | some i => (i + 1) % 16
  | none => s.command.scan

/-- R170's table: a notice is ignored in OFF, HALTED and a stop; it begins a pass at the scan
position; with a pass in progress or COMMANDS fenced it sets the rescan flag. -/
def Obligations.NoticeTable : Prop :=
  (∀ s : State, s.regs.state = .off ∨ s.regs.state = .halted ∨ s.regs.stopping = true →
    exec .notice s = .next s) ∧
  (∀ s : State, s.regs.state = .running ∨ s.regs.state = .doze → s.regs.stopping = false →
    s.command.pass = none → s.regs.fenced.commands = false →
    exec .notice s = .next { s with command := { s.command with
      pass := some { index := s.command.scan, examined := 0, last := none, since := s.clock } } }) ∧
  (∀ s : State, s.regs.state = .running ∨ s.regs.state = .doze → s.regs.stopping = false →
    s.command.pass.isSome = true ∨ s.regs.fenced.commands = true →
    exec .notice s = .next { s with command := { s.command with rescan := true } })

/-- A record examined (R168, R170, R171, R173): not POSTED, it is skipped, and the pass ends after
the 16th; POSTED, it is taken, refused with UNKNOWN_KIND or BAD_VALUE where its kind or an argument
is outside its set. A write of TAKEN that fails leaves it not performed, COMMANDS fenced and the pass
ended (R172). That a refusal is found at the examination is the model's reading (log 21), and that the
TAKEN written at the examination is shown in the image by the command's next event, and may fail until
then, is too (log 20). -/
def Obligations.ExaminationTakesOrSkips : Prop :=
  (∀ (s : State) (f : InFlight) (offset : BitVec 32), s.command.inFlight = some f → f.taken = false →
    offset.toNat = 64 * f.index →
    exec (.accessFailure .takenWrite offset) s = .next { failed s .commands true offset.toNat with
      command := { s.command with
        inFlight := none, pass := none, scan := scanEnds s (s.command.pass.bind fun p => p.last) } }) ∧
  ∀ (s : State) (r : BitVec 512) (p : Pass), s.command.pass = some p → s.command.inFlight = none →
    let taken (phase : CommandPhase) : State := { s with command := { s.command with
      inFlight := some { index := p.index, record := r, phase := phase, taken := false, snapshot := []
                         fenceAfter := false, since := s.clock } } }
    (numAt r 0 ≠ 1 → s.regs.stopping = false → s.regs.fenced.commands = false →
      (p.examined < 15 → exec (.commandExamination r) s = .next { s with command := { s.command with
        pass := some { p with index := (p.index + 1) % 16, examined := p.examined + 1, since := s.clock } } }) ∧
      (p.examined = 15 → s.command.rescan = false → exec (.commandExamination r) s =
        .next { s with command := { s.command with
          pass := none
          scan := match p.last with
            | some i => (i + 1) % 16
            | none => s.command.scan } })) ∧
    (numAt r 0 = 1 →
      (numAt r 1 = 0 ∨ 11 < numAt r 1 →
        exec (.commandExamination r) s = .next (taken (.finishing 16 0 (List.replicate 32 0)))) ∧
      (1 ≤ numAt r 1 → numAt r 1 ≤ 11 →
        (∀ b, badArgument r = some b →
          exec (.commandExamination r) s = .next (taken (.finishing 17 b (List.replicate 32 0)))) ∧
        (badArgument r = none → exec (.commandExamination r) s = .next (taken .performing))))

/-- A command of a kind is in flight and being performed. -/
def InFlightAs (s : State) (kind : Nat) (f : InFlight) : Prop :=
  s.command.inFlight = some f ∧ f.phase = .performing ∧ recordKind f.record = kind

/-- A state with the command's result known: TAKEN written if it was not yet (at this event: log 20), and
the command in flight at its final writes (R171). -/
def withResult (x : State) (f : InFlight) (result detail : Nat) (data : List Byte) : State :=
  { x with
    area := if f.taken then x.area else writeBytes x.area (takenWrite x.regs f.index)
    command := { x.command with inFlight := some { f with taken := true, phase := .finishing result detail data } } }

/-- The settings commands with arguments in their sets complete with OK and change one setting each:
SET_POSTURE_MAP (R145), SET_POSTURE to another posture with its event and to the same one without
(R144), SET_SURFACE (R89), SET_HAND (R157), SET_PUBLISH (R158). -/
def Obligations.SettingCommandsComplete : Prop :=
  ∀ (s : State) (f : InFlight),
    let ok (x : State) : State := withResult x f 0 0 (List.replicate 32 0)
    (InFlightAs s 3 f → exec .setPostureMap s =
      .next (ok { s with posture := { s.posture with map := mapOfRecord f.record } })) ∧
    (InFlightAs s 4 f → postureOfCode (numAt f.record 4) = s.posture.posture → exec .setPosture s = .next (ok s)) ∧
    (InFlightAs s 4 f → postureOfCode (numAt f.record 4) ≠ s.posture.posture →
      exec .setPosture s = .next (ok (handEvents
        { s with posture := { s.posture with posture := postureOfCode (numAt f.record 4) } }
        [{ kind := .postureChanged, type := postureCode s.posture.posture, fingers := 0
           outcome := postureCode (postureOfCode (numAt f.record 4)), inst := 0, steps := 0, dx := 0, dy := 0
           span := 0, time := s.clock }]))) ∧
    (InFlightAs s 5 f → numAt f.record 4 = 0 → exec .setSurface s =
      .next (ok { s with pad := { s.pad with enable := numAt f.record 5 == 1 } })) ∧
    (InFlightAs s 5 f → numAt f.record 4 = 1 → s.suspension.applied = true → exec .setSurface s =
      .next (ok { s with suspension := { s.suspension with saved := numAt f.record 5 == 1 } })) ∧
    (InFlightAs s 5 f → numAt f.record 4 = 1 → s.suspension.applied = false → exec .setSurface s =
      .next (ok { s with screen := { s.screen with enable := numAt f.record 5 == 1 } })) ∧
    (InFlightAs s 6 f → exec .setHand s = .next (ok { s with posture :=
      { s.posture with hand := if numAt f.record 4 = 0 then .right else .left } })) ∧
    (InFlightAs s 7 f → numAt f.record 4 = 0 → exec .setPublish s = .next (ok { s with posture :=
      { s.posture with bankA := { s.posture.bankA with shared := { s.posture.bankA.shared with
        publishPalms := numAt f.record 5 == 1, publishIdle := numAt f.record 6 == 1 } } } })) ∧
    (InFlightAs s 7 f → numAt f.record 4 = 1 → exec .setPublish s = .next (ok { s with posture :=
      { s.posture with bankB := { s.posture.bankB with shared := { s.posture.bankB.shared with
        publishPalms := numAt f.record 5 == 1, publishIdle := numAt f.record 6 == 1 } } } }))

/-- CLEAR_TRACKING sets the surface's clear request and completes with DONE, leaving a frame in
processing alone; the request stays set by a second one; it is consumed at the surface's next frame
start, whatever the surface's state, and discarded at the end of a stop, on entry to HALTED and by
both resets (R62). Consumed at the start of a frame that is tracked on the bank in force, it moves the
table into the closing list and ends the pad's gesture state with CLEARED (R63, R131). That the write of
TAKEN shows at this event is the model's reading (log 20). -/
def Obligations.ClearRequestLife : Prop :=
  (∀ (s : State) (f : InFlight) (sf : Surface), InFlightAs s 8 f →
    numAt f.record 4 = (if sf = .pad then 0 else 1) →
    exec .clearTracking s = .next (withResult (withSurface s sf { surfaceOf s sf with clearReq := true }) f 0 0
      (List.replicate 32 0))) ∧
  (∀ (s : State) (sf : Surface) (f : Frame), s.regs.state = .running ∨ s.regs.state = .doze →
    (surfaceOf s sf).processing = some { frame := f, start := none } →
    ∃ t, exec (.frameStart sf) s = .next t ∧ (surfaceOf t sf).clearReq = false) ∧
  (∀ (s t : State) (sf : Surface), exec (.frameProcessingEnd sf) s = .next t →
    (surfaceOf t sf).clearReq = (surfaceOf s sf).clearReq) ∧
  (∀ s : State, stopDone s = true →
    ∃ t, exec .stopEnd s = .next t ∧ t.pad.clearReq = false ∧ t.screen.clearReq = false) ∧
  (∀ s : State, s.fault.write.isSome = true →
    ∃ t, exec .faultRecordWriteFailure s = .next t ∧ t.pad.clearReq = false ∧ t.screen.clearReq = false) ∧
  (∀ (level : Bool) (s t : State),
    (exec (.powerOnReset level) s = .next t ∨ exec (.resetLine level) s = .next t) →
    t.pad.clearReq = false ∧ t.screen.clearReq = false) ∧
  (∀ (sf : Surface) (s : State) (f : Frame), s.regs.state = .running →
    (surfaceOf s sf).processing = some { frame := f, start := none } → (surfaceOf s sf).clearReq = true →
    (surfaceOf s sf).sleepClose = false → (surfaceOf s sf).closing = [] → (surfaceOf s sf).state = .active →
    activityOf (currentEntry s.posture) sf = true → (currentEntry s.posture).bank = (surfaceOf s sf).bankInForce →
    let u := surfaceOf s sf
    ∃ t st l, exec (.frameStart sf) s = .next t ∧
      surfaceOf t sf = { u with
        clearReq := false, table := [], closing := l
        processing := some { frame := f, start := some st }
        enable := (surfaceOf t sf).enable
        counters := endingCounts u } ∧
      st.work = .track ∧ IsClosingList u l ∧
      (sf = .pad → t.gestures = emptyGestures s.gestures.counter ∧
        t.events = (handEvents s (wholeEnded s.gestures 6 f.time)).events) ∧
      (sf = .screen → t.gestures = s.gestures ∧ t.events = s.events))

/-- An offset of configuration space that a command may name for `size` bytes (R151, R156, R174). -/
def OffsetAccepted (offset size : Nat) : Prop := offset % 8 = 0 ∧ 0x2000 ≤ offset ∧ offset < 0x4000 ∧ offset + size ≤ 0x4000

/-- A row of Tables 7-3 to 7-5: the parameter's number, the ends of its range, and its value put into a bank. -/
abbrev ParameterRow := Nat × Int × Int × (Int → Bank → Bank)

/-- The mapping rows k = 5 to 13 of a section with numbers from `base` (Tables 7-3, 7-4). -/
def mappingRows (base : Nat) (origin : Int) (put : (MapParams → MapParams) → Bank → Bank) : List ParameterRow :=
  [ (base + 5, 0, origin, fun v => put fun m => { m with originX := v.toNat }),
    (base + 6, 0, origin, fun v => put fun m => { m with originY := v.toNat }),
    (base + 7, 1, 4294967295, fun v => put fun m => { m with gainX := v.toNat }),
    (base + 8, 1, 4294967295, fun v => put fun m => { m with gainY := v.toNat }),
    (base + 9, 1, 65535, fun v => put fun m => { m with outMaxX := v.toNat }),
    (base + 10, 1, 65535, fun v => put fun m => { m with outMaxY := v.toNat }),
    (base + 11, 0, 1, fun v => put fun m => { m with flipX := decide (v = 1) }),
    (base + 12, 0, 1, fun v => put fun m => { m with flipY := decide (v = 1) }),
    (base + 13, 0, 1, fun v => put fun m => { m with swap := decide (v = 1) }) ]

/-- The rows k = 1 to 24 of a surface section with numbers from `base` (Table 7-3). -/
def surfaceRows (base : Nat) (put : (SurfaceParams → SurfaceParams) → Bank → Bank) : List ParameterRow :=
  ([ (base + 1, 1, 4095, fun v => put fun p => { p with touchThreshold := v.toNat }),
    (base + 2, 1, 4, fun v => put fun p => { p with minArea := v.toNat }),
    (base + 3, 0, 1, fun v => put fun p => { p with squared := decide (v = 1) }),
    (base + 4, 0, 15, fun v => put fun p => { p with settleFrames := v.toNat }),
    (base + 14, 128, 4095, fun v => put fun p => { p with gate := v.toNat }),
    (base + 15, 0, 3, fun v => put fun p => { p with coastFrames := v.toNat }),
    (base + 16, 1, 256, fun v => put fun p => { p with filterAlpha := v.toNat }),
    (base + 17, 0, 63, fun v => put fun p => { p with deadband := v.toNat }),
    (base + 18, 1, 1536, fun v => put fun p => { p with palmArea := v.toNat }),
    (base + 19, 0, 4095, fun v => put fun p => { p with palmRadius := v.toNat }),
    (base + 20, 1, 255, fun v => put fun p => { p with growLimit := v.toNat }),
    (base + 21, 1, 8, fun v => put fun p => { p with decideFrames := v.toNat }),
    (base + 22, 1, 256, fun v => put fun p => { p with flatLimit := v.toNat }),
    (base + 23, 1, 1536, fun v => put fun p => { p with flatMinArea := v.toNat }),
    (base + 24, 0, 15, fun v => put fun p => { p with retractFrames := v.toNat }) ] : List ParameterRow) ++
  mappingRows base 12032 (fun g => put fun p => { p with mapping := g p.mapping })

/-- The pad-only and screen-only rows (Table 7-3). -/
def ownRows : List ParameterRow :=
  [ (130, 0, 6, fun v b => { b with padOnly := { b.padOnly with gestureFloor := v.toNat } }),
    (131, 1, 4095, fun v b => { b with padOnly := { b.padOnly with scrollStart := v.toNat } }),
    (132, 1, 4095, fun v b => { b with padOnly := { b.padOnly with pinchStart := v.toNat } }),
    (133, 1, 4095, fun v b => { b with padOnly := { b.padOnly with swipeStart := v.toNat } }),
    (134, 0, 1000000, fun v b => { b with padOnly := { b.padOnly with tapTime := v.toNat } }),
    (135, 0, 4095, fun v b => { b with padOnly := { b.padOnly with tapSlop := v.toNat } }),
    (136, 0, 1000000, fun v b => { b with padOnly := { b.padOnly with dragWindow := v.toNat } }),
    (137, 0, 4095, fun v b => { b with padOnly := { b.padOnly with dragRadius := v.toNat } }),
    (138, 0, 2000000, fun v b => { b with padOnly := { b.padOnly with dragLock := v.toNat } }),
    (139, 0, 2000000, fun v b => { b with padOnly := { b.padOnly with typingGuard := v.toNat } }),
    (240, 0, 1, fun v b => { b with screenOnly := { b.screenOnly with suspendAll := decide (v = 1) } }),
    (241, 0, 4095, fun v b => { b with screenOnly := { b.screenOnly with guardMarginX := v.toNat } }),
    (242, 0, 4095, fun v b => { b with screenOnly := { b.screenOnly with guardMarginY := v.toNat } }) ]

/-- The pen rows (Table 7-4) and the shared rows (Table 7-5). -/
def penAndSharedRows : List ParameterRow :=
  ([ (301, 1, 4095, fun v b => { b with pen := { b.pen with tipOn := v.toNat } }),
    (302, 1, 4095, fun v b => { b with pen := { b.pen with tipOff := v.toNat } }),
    (303, 1000, 1000000, fun v b => { b with pen := { b.pen with timeout := v.toNat } }),
    (304, 0, 5000000, fun v b => { b with pen := { b.pen with linger := v.toNat } }),
    (314, 1, 4094, fun v b => { b with pen := { b.pen with knotX1 := v.toNat } }),
    (315, 1, 4094, fun v b => { b with pen := { b.pen with knotX2 := v.toNat } }),
    (316, 1, 4094, fun v b => { b with pen := { b.pen with knotX3 := v.toNat } }),
    (317, 0, 1023, fun v b => { b with pen := { b.pen with knotY0 := v.toNat } }),
    (318, 0, 1023, fun v b => { b with pen := { b.pen with knotY1 := v.toNat } }),
    (319, 0, 1023, fun v b => { b with pen := { b.pen with knotY2 := v.toNat } }),
    (320, 0, 1023, fun v b => { b with pen := { b.pen with knotY3 := v.toNat } }),
    (321, 0, 1023, fun v b => { b with pen := { b.pen with knotY4 := v.toNat } }),
    (401, 1, 8, fun v b => { b with shared := { b.shared with wakeFrames := v.toNat } }),
    (402, 0, 1, fun v b => { b with shared := { b.shared with publishPalms := decide (v = 1) } }),
    (403, 0, 1, fun v b => { b with shared := { b.shared with publishIdle := decide (v = 1) } }) ] : List ParameterRow) ++
  mappingRows 300 65535 (fun g b => { b with pen := { b.pen with mapping := g b.pen.mapping } })

/-- Tables 7-3 to 7-5: every parameter by its number. -/
def parameterRows : List ParameterRow :=
  surfaceRows 100 (fun g b => { b with pad := g b.pad }) ++ surfaceRows 200 (fun g b => { b with screen := g b.screen }) ++
    ownRows ++ penAndSharedRows

/-- One list entry applied to the staging copy (R150, R152, Table 8-10): a number of no table is skipped and
counted; else the value, unsigned for a gain and signed for every other parameter, is limited to the
parameter's range, counted where that changed it, and put into the copy. -/
def EntryApplied (g : Staging) (e : BitVec 64) (g' : Staging) : Prop :=
  let number := (e.extractLsb' 0 32).toNat
  let raw := e.extractLsb' 32 32
  let value : Int := if number ∈ [107, 108, 207, 208, 307, 308] then (raw.toNat : Int) else raw.toInt
  ((∀ row ∈ parameterRows, row.1 ≠ number) → g' = { g with applied := g.applied + 1, skipped := g.skipped + 1 }) ∧
  ∀ row ∈ parameterRows, row.1 = number → g' = { g with
    applied := g.applied + 1
    bank := row.2.2.2 (max row.2.1 (min row.2.2.1 value)) g.bank
    clamped := if row.2.1 ≤ value ∧ value ≤ row.2.2.1 then g.clamped else g.clamped + 1 }

/-- The checks of a staging copy in order, with the detail of each (R153, Table 8-13). -/
def StructureChecked (b : Bank) (fault : Option Nat) : Prop :=
  let q := b.pen
  FirstMet
    [ (¬(q.knotX1 < q.knotX2 ∧ q.knotX2 < q.knotX3 ∧ q.knotY0 ≤ q.knotY1 ∧ q.knotY1 ≤ q.knotY2 ∧
        q.knotY2 ≤ q.knotY3 ∧ q.knotY3 ≤ q.knotY4), 2),
      (¬q.tipOff ≤ q.tipOn, 3),
      (¬b.pad.minArea ≤ b.pad.palmArea, 4),
      (¬b.screen.minArea ≤ b.screen.palmArea, 5) ] fault

/-- LOAD_BANK on a list read whole (R150 to R153, Tables 7-3 to 7-5, 8-10): a bad offset, a count outside 1..120
and a list past the space are refused; else the entries are applied in order to a copy of the bank, each by
its number, its range and the counting of R152, and the copy replaces the bank in one step if it passes the
four checks; a refusal leaves both banks as they were. The list arrives here in one event (log 19), and the
write of TAKEN shows at it (log 20). -/
def Obligations.LoadBankReplacesOrRefuses : Prop :=
  (∀ (g : Staging) (e : BitVec 64), EntryApplied g e (applyEntry g e)) ∧
  (∀ b : Bank, StructureChecked b (structureFault b)) ∧
  ∀ (s : State) (f : InFlight) (i : BankId) (head : BitVec 64) (entries : List (BitVec 64)),
    InFlightAs s 1 f → s.posture.staging = none → numAt f.record 4 = (if i = .a then 0 else 1) →
    let offset := recordOffset f.record
    let count := (head.extractLsb' 0 32).toNat
    let g := entries.foldl applyEntry { bank := bankOf s.posture i, count := count, applied := 0, skipped := 0, clamped := 0 }
    let counts (a b : Nat) : List Byte :=
      [BitVec.ofNat 8 a, BitVec.ofNat 8 (a / 256), BitVec.ofNat 8 b, BitVec.ofNat 8 (b / 256)] ++ List.replicate 28 0
    (¬OffsetAccepted offset 8 → exec (.loadBank (head :: entries)) s = .next (withResult s f 18 0 (counts 0 0))) ∧
    (OffsetAccepted offset 8 →
      (count = 0 ∨ 120 < count → exec (.loadBank (head :: entries)) s = .next (withResult s f 19 1 (counts 0 0))) ∧
      (1 ≤ count → count ≤ 120 → 0x4000 < offset + 8 + 8 * count →
        exec (.loadBank (head :: entries)) s = .next (withResult s f 18 0 (counts 0 0))) ∧
      (1 ≤ count → count ≤ 120 → offset + 8 + 8 * count ≤ 0x4000 → entries.length = count →
        (∀ d, structureFault g.bank = some d →
          exec (.loadBank (head :: entries)) s = .next (withResult s f 19 d (counts g.skipped g.clamped))) ∧
        (structureFault g.bank = none →
          exec (.loadBank (head :: entries)) s = .next (withResult
            { s with posture := if i = .a then { s.posture with bankA := g.bank } else { s.posture with bankB := g.bank } }
            f (if g.skipped = 0 ∧ g.clamped = 0 then 0 else 1) 0 (counts g.skipped g.clamped)))))

/-- A zone record read under an output range (R156, Table 8-10): the place it gives, whether a coordinate was
clamped, and whether the zone was dropped. A present byte of 0 gives a place not present; else each coordinate
is limited to the range, and a rectangle whose corners are then crossed is dropped. -/
def ZoneRead (rangeX rangeY : Nat) (r : BitVec 128) (read : Option Zone × Bool × Bool) : Prop :=
  let x0 := (r.extractLsb' 32 16).toNat
  let y0 := (r.extractLsb' 48 16).toNat
  let x1 := (r.extractLsb' 64 16).toNat
  let y1 := (r.extractLsb' 80 16).toNat
  let zone : Zone :=
    { x0 := min x0 rangeX, y0 := min y0 rangeY, x1 := min x1 rangeX, y1 := min y1 rangeY
      flags := { ignoreZone := r.getLsbD 8, palmEdge := r.getLsbD 9, typingExempt := r.getLsbD 10
                 wake := r.getLsbD 11, noTap := r.getLsbD 12 } }
  let clamped := decide (rangeX < x0 ∨ rangeY < y0 ∨ rangeX < x1 ∨ rangeY < y1)
  let crossed : Prop := zone.x1 < zone.x0 ∨ zone.y1 < zone.y0
  (r.extractLsb' 0 8 = 0 → read = (none, false, false)) ∧
  (r.extractLsb' 0 8 ≠ 0 → crossed → read = (none, clamped, true)) ∧
  (r.extractLsb' 0 8 ≠ 0 → ¬crossed → read = (some zone, clamped, false))

/-- LOAD_ZONES (R156, Table 8-10): a count of 0 empties the surface's table with the offset unchecked; a bad
offset is refused; else the records read give the places in order, each limited to the output range of the
surface's mapping in bank A (R30), crossed rectangles dropped, those at and above the count being not
present; and the table is replaced in one step, with both counts in the result data. The records arrive here
in one event (log 19), and the write of TAKEN shows at it (log 20). -/
def Obligations.LoadZonesReplacesOrRefuses : Prop :=
  (∀ (rangeX rangeY : Nat) (r : BitVec 128), ZoneRead rangeX rangeY r (readZone rangeX rangeY r)) ∧
  ∀ (s : State) (f : InFlight) (sf : Surface) (records : List (BitVec 128)),
    InFlightAs s 2 f → s.posture.zoneStaging = none → numAt f.record 4 = (if sf = .pad then 0 else 1) →
    numAt f.record 5 ≤ 16 →
    let count := numAt f.record 5
    let m := (sectionOf sf s.posture.bankA).mapping
    let read := records.map (readZone (if m.swap then m.outMaxY else m.outMaxX) (if m.swap then m.outMaxX else m.outMaxY))
    let clamped := (read.filter fun z => z.2.1).length
    let dropped := (read.filter fun z => z.2.2).length
    let counts (a b : Nat) : List Byte := [BitVec.ofNat 8 a, BitVec.ofNat 8 b] ++ List.replicate 30 0
    (count ≠ 0 → ¬OffsetAccepted (recordOffset f.record) (16 * count) →
      exec (.loadZones records) s = .next (withResult s f 18 0 (counts 0 0))) ∧
    (count = 0 ∨ OffsetAccepted (recordOffset f.record) (16 * count) → records.length = count →
      exec (.loadZones records) s = .next (withResult
        (withSurface s sf { surfaceOf s sf with
          zones := { count := count, places := read.map (·.1) ++ List.replicate (16 - count) none } })
        f (if clamped = 0 ∧ dropped = 0 then 0 else 1) 0 (counts clamped dropped)))

/-- A surface after SLEEP in RUNNING (R190, R191). -/
def slept (u : SurfaceUnit) : SurfaceUnit :=
  if u.state = .settling ∨ u.state = .active then { u with state := .watch, sleepClose := true, wakeRun := 0 }
  else { u with wakeRun := 0 }

/-- SLEEP in RUNNING enters DOZE, puts settling and active surfaces into WATCH, opens the Pen Channel
of a watched screen and clears the wake-reported marker and the wake run counts (R190); WAKE in DOZE
enters RUNNING, sends watched and inactive surfaces to SETTLING with settle count 0 or to INACTIVE
by the posture's entry, and closes the Pen Channel of a watched screen with nothing handed over
(R193). In the other run state, and during a stop, nothing changes. Both complete with OK. At the first
frame start after SLEEP the table is ended as for a deactivation and the pad's gesture state with
POSTURE_CANCELLED (R61, R114, R130); the closing list is that frame's result, or goes out with the frame's
own handover where it is tracked at once (log 12). -/
def Obligations.SleepAndWakeMoveRunState : Prop :=
  ∀ (s : State) (f : InFlight),
    let ok (x : State) : State := withResult x f 0 0 (List.replicate 32 0)
    (InFlightAs s 9 f → s.regs.state = .running → s.regs.stopping = false →
      exec .sleep s = .next (ok { s with
        regs := { s.regs with state := .doze }
        pad := slept s.pad
        screen := slept s.screen
        pen := if (slept s.screen).state = .watch then { s.pen with isOpen := true } else s.pen
        wakeReported := false })) ∧
    (InFlightAs s 9 f → s.regs.state = .doze ∨ s.regs.stopping = true → exec .sleep s = .next (ok s)) ∧
    (InFlightAs s 10 f → s.regs.state = .doze → s.regs.stopping = false →
      ∃ t, exec .wake s = .next (ok t) ∧
        t = { s with regs := { s.regs with state := .running }, pad := t.pad, screen := t.screen, pen := t.pen } ∧
        (∀ sf, (surfaceOf s sf).state = .watch ∨ (surfaceOf s sf).state = .inactive →
          surfaceOf t sf = { surfaceOf s sf with
            wakeRun := 0
            processing := (surfaceOf t sf).processing
            state := if activityOf (currentEntry s.posture) sf then .settling else .inactive
            settle := if activityOf (currentEntry s.posture) sf then 0 else (surfaceOf s sf).settle } ∧
          (surfaceOf t sf).processing.map (·.frame) = (surfaceOf s sf).processing.map (·.frame)) ∧
        (s.screen.state = .watch → PenAtRest t.pen ∧ PenKept s.pen t.pen) ∧
        (s.screen.state ≠ .watch → t.pen = s.pen)) ∧
    (InFlightAs s 10 f → s.regs.state = .running ∨ s.regs.stopping = true → exec .wake s = .next (ok s)) ∧
    (∀ (sf : Surface) (g : Frame), s.regs.state = .running ∨ s.regs.state = .doze →
      (surfaceOf s sf).processing = some { frame := g, start := none } → (surfaceOf s sf).sleepClose = true →
      (surfaceOf s sf).clearReq = false → (surfaceOf s sf).closing = [] → (surfaceOf s sf).state ≠ .active →
      let u := surfaceOf s sf
      let bank := if u.state = .watch then u.bankInForce else (currentEntry s.posture).bank
      let snap : Snapshot :=
        { bank := bank, active := activityOf (currentEntry s.posture) sf, values := bankOf s.posture bank }
      ∃ t st, exec (.frameStart sf) s = .next t ∧
        (surfaceOf t sf).processing = some { frame := g, start := some st } ∧ st.snap = snap ∧
        (surfaceOf t sf).table = [] ∧ (surfaceOf t sf).sleepClose = false ∧
        (surfaceOf t sf).counters.retractions = (endingCounts u).retractions ∧
        (st.work = .track → IsClosingList u (surfaceOf t sf).closing ∧ (surfaceOf t sf).publisher = u.publisher) ∧
        (st.work ≠ .track → (surfaceOf t sf).closing = [] ∧
          (u.table = [] → (surfaceOf t sf).publisher = u.publisher) ∧
          (u.table ≠ [] → ∃ h, ClosingHandover sf s t g snap h ∧ (surfaceOf t sf).publisher = handedOver sf s h)) ∧
        (s.regs.state = .doze → u.state = .watch → st.work = .watch ∧ (surfaceOf t sf).state = .watch) ∧
        (sf = .pad → t.gestures = emptyGestures s.gestures.counter ∧
          t.events = (handEvents s (wholeEnded s.gestures 5 g.time)).events) ∧
        (sf = .screen → t.gestures = s.gestures ∧ t.events = s.events) ∧
        t = { withSurface s sf (surfaceOf t sf) with
          suspension := t.suspension, pen := t.pen, gestures := t.gestures, events := t.events })

/-- The fields of a surface block of the snapshot record, from its start in the record (Table 8-11). -/
def blockFields (start : Nat) (u : SurfaceUnit) : List (Nat × Nat × Nat) :=
  [ (start, 2, u.counters.short), (start + 2, 2, u.counters.long), (start + 4, 2, u.counters.orphan),
    (start + 6, 2, u.counters.gap), (start + 8, 2, u.counters.overrun), (start + 10, 2, u.counters.settleDiscards),
    (start + 12, 2, u.counters.blobsDropped), (start + 14, 2, u.counters.tableFull),
    (start + 16, 2, u.counters.confirmed), (start + 18, 2, u.counters.rejected),
    (start + 20, 2, u.counters.retractions), (start + 22, 2, 0), (start + 24, 4, u.created.toNat),
    (start + 28, 1, u.publisher.count), (start + 29, 3, 0) ]

/-- The fields of the snapshot record (Table 8-11). -/
def snapshotFields (s : State) : List (Nat × Nat × Nat) :=
  let surface : SurfaceState → Nat := codeOf [.inactive, .settling, .active, .watch]
  [ (0, 8, s.clock.toNat), (8, 1, codeOf [.off, .running, .doze, .halted] s.regs.state),
    (9, 1, codeOf [.laptop, .stand, .tent, .tablet, .closed] s.posture.posture),
    (10, 1, codeOf [.right, .left] s.posture.hand), (11, 1, codeOf [.away, .hover, .touch, .linger] s.pen.state),
    (12, 1, surface s.pad.state), (13, 1, surface s.screen.state),
    (14, 1, bankField s.pad.bankInForce), (15, 1, bankField s.screen.bankInForce) ] ++
  blockFields 16 s.pad ++ blockFields 48 s.screen ++
  [ (80, 2, s.pen.linkErrors), (82, 2, s.pen.timeouts), (84, 4, s.pen.count.toNat), (88, 2, s.events.lost),
    (90, 2, s.events.coalesced), (92, 1, s.gestures.counter), (93, 1, s.fault.later),
    (94, 1, s.fault.written.toNat), (95, 33, 0) ]

/-- SNAPSHOT (R174): a bad offset is refused with BAD_OFFSET; else the 128 bytes of the record of Table 8-11,
made of the state at that moment, are to be written at the offset in order of offset, and the result is OK;
nothing else changes. A write of the record that fails has the command refused with MEMORY_FAULT, what was written
before it being left, and COMMANDS fenced once the result is written (R172, log 18). -/
def Obligations.SnapshotCopiesStateAtOnce : Prop :=
  (∀ (s : State) (offset : Nat), (layout s.regs offset (snapshotFields s)).length = 128) ∧
  (∀ (s : State) (f : InFlight), InFlightAs s 11 f →
    let offset := recordOffset f.record
    (¬OffsetAccepted offset 128 → exec .snapshot s = .next (withResult s f 18 0 (List.replicate 32 0))) ∧
    (OffsetAccepted offset 128 → exec .snapshot s = .next (withResult s
      { f with snapshot := layout s.regs offset (snapshotFields s) } 0 0 (List.replicate 32 0)))) ∧
  (∀ (s : State) (f : InFlight) (offset : BitVec 32), s.command.inFlight = some f → WritesAt s offset f.snapshot →
    exec (.accessFailure .snapshotWrite offset) s = .next (withResult
      { reported s .commands true offset.toNat with area := landedImage s s.area offset f.snapshot }
      { f with snapshot := [], fenceAfter := true } 20 0 (List.replicate 32 0)))

/-- The Command Unit's registers once a command's result is written: COMMANDS fenced where a failure of
the command's own asked for it (R172). -/
def fencedAfter (s : State) (f : InFlight) : Registers :=
  if f.fenceAfter then { s.regs with fenced := { s.regs.fenced with commands := true } } else s.regs

/-- The final state write succeeds (R171, R170): every byte of the command's writes is in memory, the
TAKEN of its record (log 20), its snapshot record, its result, detail, result data and last its final
state, DONE or REFUSED, each where Table 8-4 has it, and no other byte changes; COMMAND is set and the command in flight is absent. The
pass goes on to the next index with this record as the last one taken, or, after the 16th record, during
a stop or with COMMANDS fenced, ends with the scan position after this record; a set rescan flag then
begins another pass where one may begin. A final write that fails leaves what was written before it (log
18), sets no cause, fences COMMANDS and ends the pass (R172). That a fence owed to a failed read is set
here also where FAULT has been cleared since is the model's reading (log 33). -/
def Obligations.CompletionWritesResult : Prop :=
  ∀ (s : State) (f : InFlight) (result detail : Nat) (data : List Byte),
    s.command.inFlight = some f → f.phase = .finishing result detail data →
    let record := 64 * f.index
    let final := layout s.regs record [(2, 1, result), (3, 1, detail)] ++
      data.zipIdx.map (fun q => (addressOf s.regs (record + 32 + q.2), q.1)) ++
      layout s.regs record [(0, 1, if result ≤ 1 then 3 else 4)]
    let done : State := { s with
      regs := { fencedAfter s f with causes := s.regs.causes ||| 0x10#7 }
      area := writeBytes (takenImage s) (f.snapshot ++ final) }
    let idle : CommandUnit := { s.command with inFlight := none, pass := none, scan := (f.index + 1) % 16 }
    let goesOn (p : Pass) : Prop :=
      p.examined + 1 < 16 ∧ s.regs.stopping = false ∧ (fencedAfter s f).fenced.commands = false
    let another : Prop := s.command.rescan = true ∧ (s.regs.state = .running ∨ s.regs.state = .doze) ∧
      s.regs.stopping = false ∧ (fencedAfter s f).fenced.commands = false
    (∀ p, s.command.pass = some p → goesOn p → exec .commandCompletion s = .next { done with
      command := { s.command with
        inFlight := none
        pass := some { index := (p.index + 1) % 16, examined := p.examined + 1, last := some f.index
                       since := s.clock } } }) ∧
    (∀ p, s.command.pass = some p → ¬goesOn p →
      (¬another → exec .commandCompletion s = .next { done with command := idle }) ∧
      (another → exec .commandCompletion s = .next { done with command := { idle with
        rescan := false
        pass := some { index := (f.index + 1) % 16, examined := 0, last := none, since := s.clock } } })) ∧
    (s.command.pass = none → exec .commandCompletion s =
      .next { done with command := { s.command with inFlight := none } }) ∧
    readByte done.area (addressOf s.regs record) = some (if result ≤ 1 then 3 else 4) ∧
    (data.length = 32 → (final.map fun c => c.1).Nodup) ∧
    (((f.snapshot ++ final).map fun c => c.1).Nodup → ∀ c ∈ f.snapshot ++ final, readByte done.area c.1 = some c.2) ∧
    (∀ a, (∀ c ∈ f.snapshot ++ final, c.1 ≠ a) → readByte done.area a = readByte s.area a) ∧
    (∀ offset : BitVec 32, WritesAt s offset final →
      exec (.accessFailure .finalWrite offset) s = .next { failed s .commands true offset.toNat with
        area := landedImage s (writeBytes (takenImage s) f.snapshot) offset final
        command := if s.command.pass.isSome then idle else { s.command with inFlight := none } })

/-! ### Slots and records -/

/-- The entries of a handover that are listed (R176), with the pending frame's ids and the
shown-undecided set as the Publisher holds them. -/
def Listed (palms : Bool) (p : FramePublisher) (e : Entry) : Prop :=
  palms = true ∨ e.cls = .finger ∨ e.flags.retracted = true ∨ (e.cls = .undecided ∧ e.flags.entered = true) ∨
    (e.id ∈ p.shown ∧ (e.flags.left = true ∨ e.cls ≠ .undecided)) ∨
    (e.flags.left = true ∧ ∃ f ∈ p.pending, e.id ∈ f.entries.map (·.id))

/-- A held entry limited to the output range of a later handover (R179). -/
def limitedEntry (h : Handover) (e : Entry) : Entry :=
  let pos : Pt := { x := within h.rangeX e.pos.x, y := within h.rangeY e.pos.y }
  { e with pos := pos, flags := { e.flags with clamped := e.flags.clamped || decide (pos ≠ e.pos) } }

/-- A surface's Publisher after an access of its fenced stream has ended: what was handed over meanwhile is
taken without a read (R178, R195; log 6). -/
def fencedFrames (sf : Surface) (s : State) : FramePublisher :=
  let u := surfaceOf s sf
  runFrames sf true s.clock u.created u.publisher.handed { u.publisher with access := .none }

/-- The pen publisher after an access of the fenced PEN stream has ended (R181, R195; log 6). -/
def fencedSamples (s : State) : PenPublisher :=
  runSamples true s.clock s.penOut.handed { s.penOut with access := .none }

/-- The shown-undecided set after a handover whose entries have ids of their own (R176): an id leaves it with an
entry that carries LEFT, listed or not; an entry listed without LEFT puts it in if its class is UNDECIDED and
takes it out if it is another; otherwise it stays as it was. -/
def ShownAfter (h : Handover) (listed : List Entry) (before after : List Nat) : Prop :=
  (h.entries.map fun e => e.id).Nodup → ∀ i,
    ((∀ e ∈ h.entries, e.id ≠ i) → (i ∈ after ↔ i ∈ before)) ∧
    ∀ e ∈ h.entries, e.id = i →
      (e.flags.left = true → i ∉ after) ∧
      (e.flags.left = false → e ∈ listed → (i ∈ after ↔ e.cls = .undecided)) ∧
      (e.flags.left = false → e ∉ listed → (i ∈ after ↔ i ∈ before))

/-- What the Publisher makes of one handover (R176 to R180): with no pending frame and nothing to list it
offers nothing, unless an idle frame is due; else it offers the listed entries, or the pending frame with
them merged in, cut to the slot, with a read of the slot's state byte where the stream is open. The idle marker
and the shown-undecided set follow what is listed. -/
def HandoverTaken (sf : Surface) (fenced : Bool) (now : Time) (created : BitVec 32) (h : Handover)
    (p q : FramePublisher) : Prop :=
  ∃ listed : List Entry, listed.Sublist h.entries ∧ (∀ e ∈ h.entries, e ∈ listed ↔ Listed h.palms p e) ∧
    q.index = p.index ∧ q.count = p.count ∧ q.handed = p.handed ∧ q.idle = !listed.isEmpty ∧
    ShownAfter h listed p.shown q.shown ∧
    q.access = (if q.pending.isSome ∧ fenced = false then .reading now else .none) ∧
    (p.pending = none →
      (listed = [] → h.idle = false → p.idle = false → q.pending = none) ∧
      (listed ≠ [] ∨ h.idle = true ∨ p.idle = true →
        q.pending = some (cutFrame (Config.slotEntries sf)
          { entries := listed, time := h.time, bank := h.bank, flags := h.flags, merged := 0 }))) ∧
    (∀ f, p.pending = some f → q.pending = some (cutFrame (Config.slotEntries sf) (mergeFrame created listed h f)))

/-- Merging a handover's listed entries into a pending frame (R179): time and bank are the handover's,
frame flags joined, the count one more; a listed entry whose id is held takes its place with its values
new and the flags joined, another is added at its place in creation order (R46), the held ones keeping their
places; every coordinate lies in the handover's range. That a merged entry keeps the held one's creation
number is the model's reading (log 31). -/
def Merged (created : BitVec 32) (listed : List Entry) (h : Handover) (f g : PendingFrame) : Prop :=
  let inOrder (l : List Entry) : Prop :=
    l.Pairwise fun a b => (created - b.number).toNat ≤ (created - a.number).toNat
  (g.entries.map (fun e => e.id)).filter (fun i => decide (i ∈ f.entries.map (fun e => e.id))) =
    f.entries.map (fun e => e.id) ∧
  (inOrder f.entries → inOrder g.entries) ∧
  g.time = h.time ∧ g.bank = h.bank ∧ g.merged = min (f.merged + 1) 255 ∧ g.flags = orFrameFlags f.flags h.flags ∧
    (∀ i, i ∈ g.entries.map (·.id) ↔ i ∈ f.entries.map (·.id) ∨ i ∈ listed.map (·.id)) ∧
    (∀ e ∈ g.entries, 0 ≤ e.pos.x ∧ e.pos.x ≤ h.rangeX ∧ 0 ≤ e.pos.y ∧ e.pos.y ≤ h.rangeY) ∧
    (∀ e ∈ f.entries, e.id ∉ listed.map (·.id) → limitedEntry h e ∈ g.entries) ∧
    (∀ e ∈ listed, e.id ∉ f.entries.map (·.id) → limitedEntry h e ∈ g.entries) ∧
    (∀ e ∈ listed, ∀ held ∈ f.entries, held.id = e.id →
      limitedEntry h { e with number := held.number, flags := orContactFlags held.flags e.flags } ∈ g.entries)

/-- The cut of a frame to a slot (R180): only LEFT entries are dropped, as many as there are too many: the oldest,
which stand first, of contacts never confirmed, and when none of those is left the oldest of confirmed ones;
and LOST_ENDS is set. A frame that fits stays. -/
def CutTo (n : Nat) (f g : PendingFrame) : Prop :=
  (f.entries.length ≤ n → g = f) ∧
  (n < f.entries.length → g = { f with entries := g.entries, flags := { f.flags with lostEnds := true } }) ∧
  g.entries.Sublist f.entries ∧
  g.entries.filter (fun e => !e.flags.left) = f.entries.filter (fun e => !e.flags.left) ∧
  (f.entries.length - n ≤ (f.entries.filter fun e => e.flags.left).length → g.entries.length = min n f.entries.length) ∧
  (let never (l : List Entry) : List Entry := l.filter fun e => e.flags.left && !e.confirmed
   let sure (l : List Entry) : List Entry := l.filter fun e => e.flags.left && e.confirmed
   let excess := f.entries.length - n
   never g.entries = (never f.entries).drop excess ∧
     sure g.entries = (sure f.entries).drop (excess - (never f.entries).length))

/-- The fields of a frame slot's header (Table 8-9). -/
def headerFields (count : Nat) (f : PendingFrame) : List (Nat × Nat × Nat) :=
  [ (0, 1, 1), (1, 1, count % 128 + 128 * bankField f.bank), (2, 1, f.merged), (3, 1, f.entries.length),
    (4, 1, flagField [f.flags.blobsDropped, f.flags.tableFull, f.flags.penSuspended, f.flags.typingGuard,
      f.flags.lostEnds]), (5, 3, 0), (8, 4, f.time.toNat), (12, 20, 0) ]

/-- The fields of a frame slot's entry k, at 32 + 24k in the slot (Table 8-9). -/
def entryFields (k : Nat) (e : Entry) : List (Nat × Nat × Nat) :=
  let start := 32 + 24 * k
  [ (start, 1, e.id),
    (start + 1, 1, flagField [e.flags.entered, e.flags.confirmed, e.flags.retracted, e.flags.left, e.flags.clamped]),
    (start + 2, 1, codeOf [.undecided, .finger, .palm, .ignored] e.cls),
    (start + 3, 1, codeOf [.none, .size, .flat, .edgeGrow, .neighbour, .typing, .penGuard, .zone, .suspended] e.reason),
    (start + 4, 1, e.zone.getD 255), (start + 5, 1, 0), (start + 6, 2, signedField 2 e.pos.x),
    (start + 8, 2, signedField 2 e.pos.y), (start + 10, 2, e.area), (start + 12, 2, e.peak), (start + 14, 10, 0) ]

/-- The writes of a frame slot (R178, Tables 8-3, 8-9): the entries in order, then the header with its state byte
FULL last. -/
def SlotWrites (r : Registers) (sf : Surface) (index count : Nat) (f : PendingFrame) (cells : List Host.Cell) : Prop :=
  let start := if sf = .pad then 0x1000 + 256 * index else 0x1400 + 512 * index
  let entries := f.entries.zipIdx.flatMap fun q => entryFields q.2 q.1
  RecordWrites r start (entries ++ headerFields count f) 1 cells ∧
    ∃ rest, cells = layout r start entries ++ rest

/-- The fields of a pen slot (Table 8-8). -/
def penFields (q : PenSample) (merged : Nat) : List (Nat × Nat × Nat) :=
  [ (0, 1, 1), (1, 1, codeOf [.away, .hover, .touch, .linger] q.state), (2, 1, codeOf [.pen, .eraser] q.tool),
    (3, 1, flagField [q.button1, q.button2]),
    (4, 1, flagField [q.flags.enteredRange, q.flags.tipDown, q.flags.tipUp, q.flags.leftRange, q.flags.timedOut,
      q.flags.clamped]), (5, 1, bankField q.bank), (6, 1, merged), (7, 1, q.hover.toNat),
    (8, 2, signedField 2 q.pos.x), (10, 2, signedField 2 q.pos.y), (12, 2, q.pressure),
    (14, 1, signedField 1 q.tiltX), (15, 1, signedField 1 q.tiltY), (16, 4, q.time.toNat), (20, 44, 0) ]

/-- Handovers taken, merged and cut (R176 to R180) and pen samples taken and merged (R181). Frame slots
(R178) and pen slots (R181): a FREE slot is written at the publish index, any other state byte leaves the
content pending; the bytes written are those of Tables 8-9 and 8-8, at the slot's offsets (Table 8-3), the
state byte FULL last; the successful FULL write puts them into memory, there alone, advances index and count,
sets the cause and removes the content; a write that fails leaves what was written before it (log
18), advances nothing, fences the stream and leaves the content pending. Merged entries keep their
creation number (log 31), and what is handed over during an access waits for its end (log 6). -/
def Obligations.SlotsArePublished : Prop :=
  (∀ (sf : Surface) (fenced : Bool) (now : Time) (created : BitVec 32) (h : Handover) (p : FramePublisher),
    HandoverTaken sf fenced now created h p (takeHandover sf fenced now created h p)) ∧
  (∀ (created : BitVec 32) (listed : List Entry) (h : Handover) (f : PendingFrame),
    (listed.map (·.id)).Nodup → (f.entries.map (·.id)).Nodup →
    Merged created listed h f (mergeFrame created listed h f)) ∧
  (∀ (n : Nat) (f : PendingFrame), CutTo n f (cutFrame n f)) ∧
  (∀ (r : Registers) (sf : Surface) (index count : Nat) (f : PendingFrame), f.entries.length ≤ 16 →
    SlotWrites r sf index count f (frameSlotCells r sf index count f)) ∧
  (∀ (r : Registers) (index merged : Nat) (q : PenSample),
    RecordWrites r (0x0C00 + 64 * index) (penFields q merged) 1 (penSlotCells r index q merged)) ∧
  (∀ (s : State) (q : PenSample), s.penOut.access = .none → s.penOut.handed = [] →
    (handSamples s [q]).penOut = { s.penOut with
      pending := match s.penOut.pending with
        | none => some (q, 0)
        | some (held, n) => some ({ q with flags := orPenFlags held.flags q.flags }, min (n + 1) 255)
      access := if s.regs.fenced.pen then .none else .reading s.clock }) ∧
  (∀ (s : State) (sf : Surface) (cells : List Host.Cell) (offset : BitVec 32),
    (surfaceOf s sf).publisher.access = .writing cells → WritesAt s offset cells →
    let u := surfaceOf s sf
    exec (.accessFailure (.frameSlotWrite sf) offset) s = .next (withSurface
      { failed s (frameStream sf) true offset.toNat with area := landedImage s s.area offset cells } sf
      { u with publisher := fencedFrames sf s })) ∧
  (∀ (s : State) (cells : List Host.Cell) (offset : BitVec 32),
    s.penOut.access = .writing cells → WritesAt s offset cells →
    exec (.accessFailure .penSlotWrite offset) s = .next
      { failed s .pen true offset.toNat with
        area := landedImage s s.area offset cells
        penOut := fencedSamples s }) ∧
  (∀ (s : State) (sf : Surface) (since : Time) (c : PendingFrame) (byte : Byte),
    (surfaceOf s sf).publisher.access = .reading since → (surfaceOf s sf).publisher.pending = some c →
    let u := surfaceOf s sf
    (byte = 0 → exec (.frameSlotStateRead sf byte) s = .next (withSurface s sf { u with publisher :=
      { u.publisher with access := .writing (frameSlotCells s.regs sf u.publisher.index u.publisher.count c) } })) ∧
    (byte ≠ 0 → u.publisher.handed = [] → exec (.frameSlotStateRead sf byte) s =
      .next (withSurface s sf { u with publisher := { u.publisher with access := .none } }))) ∧
  (∀ (s : State) (sf : Surface) (cells : List Host.Cell), (surfaceOf s sf).publisher.access = .writing cells →
    (surfaceOf s sf).publisher.handed = [] →
    let u := surfaceOf s sf
    ∃ t, exec (.frameSlotPublished sf) s = .next t ∧
      t = { withSurface s sf { u with publisher := { u.publisher with
              pending := none, access := .none
              count := (u.publisher.count + 1) % 128, index := (u.publisher.index + 1) % 4 } } with
            regs := { s.regs with causes := s.regs.causes ||| (if sf = .pad then 0x01#7 else 0x02#7) }
            area := t.area } ∧
      WrittenThereAlone s.area t.area cells) ∧
  (∀ (s : State) (since : Time) (q : PenSample) (merged : Nat) (byte : Byte),
    s.penOut.access = .reading since → s.penOut.pending = some (q, merged) →
    (byte = 0 → exec (.penSlotStateRead byte) s = .next { s with penOut :=
      { s.penOut with access := .writing (penSlotCells s.regs s.penOut.index q merged) } }) ∧
    (byte ≠ 0 → s.penOut.handed = [] → exec (.penSlotStateRead byte) s =
      .next { s with penOut := { s.penOut with access := .none } })) ∧
  (∀ (s : State) (cells : List Host.Cell), s.penOut.access = .writing cells → s.penOut.handed = [] →
    ∃ t, exec .penSlotPublished s = .next t ∧
      t = { s with
        penOut := { s.penOut with pending := none, access := .none, index := (s.penOut.index + 1) % 8 }
        regs := { s.regs with causes := s.regs.causes ||| 0x04#7 }
        area := t.area } ∧
      WrittenThereAlone s.area t.area cells)

/-- The fields of an event record (Table 8-7). -/
def eventFields (e : Event) (loss : Bool) : List (Nat × Nat × Nat) :=
  [ (0, 1, 1 + codeOf [.gestureBegin, .gestureStep, .gestureEnd, .tap, .penButton, .postureChanged, .wake] e.kind),
    (1, 1, e.type), (2, 1, e.fingers), (3, 1, e.outcome), (4, 1, flagField [loss]), (5, 1, e.inst), (6, 2, e.steps),
    (8, 2, signedField 2 e.dx), (10, 2, signedField 2 e.dy), (12, 2, signedField 2 e.span), (14, 2, 0),
    (16, 4, e.time.toNat), (20, 12, 0) ]

/-- A new event held (R183, R184): a step joins the youngest held event where that is a step of its
instance; else the event is added at the young end, from a queue of 8 after the oldest held step, or where
there is none the oldest event, has been discarded, counted, and the loss marker set. -/
def Holds (e : Event) (p q : EventPublisher) : Prop :=
  let joins (y : Event) : Prop := y.kind = .gestureStep ∧ e.kind = .gestureStep ∧ y.inst = e.inst
  let sum (a b : Int) : Int := max (-32768) (min 32767 (a + b))
  (∀ pre y, p.queue = pre ++ [y] → joins y →
    q = { p with
      queue := pre ++ [{ y with dx := sum y.dx e.dx, dy := sum y.dy e.dy, span := sum y.span e.span
                                steps := min (y.steps + e.steps) 65535, time := e.time }]
      coalesced := oneMore p.coalesced }) ∧
  ((∀ y, p.queue.getLast? = some y → ¬joins y) → p.queue.length < 8 → q = { p with queue := p.queue ++ [e] }) ∧
  ((∀ y, p.queue.getLast? = some y → ¬joins y) → 8 ≤ p.queue.length →
    (∀ pre x post, p.queue = pre ++ x :: post → x.kind = .gestureStep → (∀ z ∈ pre, z.kind ≠ .gestureStep) →
      q = { p with queue := pre ++ post ++ [e], lost := oneMore p.lost, loss := true }) ∧
    ((∀ z ∈ p.queue, z.kind ≠ .gestureStep) →
      q = { p with queue := p.queue.tail ++ [e], lost := oneMore p.lost, loss := true }))

/-- A new event held, where there is one. -/
def HoldsFresh (fresh : Option Event) (p q : EventPublisher) : Prop :=
  match fresh with
  | some e => Holds e p q
  | none => q = p

/-- The event strip (R182, R184): an EMPTY record at the write position takes the oldest held event,
or the new one when none is held, with LOSS as the loss marker stands; the successful kind write puts
the bytes of Table 8-7 into memory, there alone, the kind byte last, advances the position, sets EVENT, removes the event and clears
the marker after a record with LOSS; then the next held event, or with none left the new event, is offered
at the new position, and with nothing on offer the access ends, what was handed over meanwhile being taken
(log 6). At a record not EMPTY the new event is held, and so is every new
event while EVENTS is fenced (R183, R184). A write of a record that fails leaves what was written before
it (log 18), fences EVENTS and holds the event. -/
def Obligations.EventStripWritesInOrder : Prop :=
  (∀ (r : Registers) (position : Nat) (e : Event) (loss : Bool),
    RecordWrites r (0x0800 + 32 * position) (eventFields e loss)
      (1 + codeOf [.gestureBegin, .gestureStep, .gestureEnd, .tap, .penButton, .postureChanged, .wake] e.kind)
      (eventCells r position e loss)) ∧
  (∀ g : Gesture, gestureCode g = 2 + codeOf [.drag, .scroll, .pinch, .swipe3, .swipe4] g) ∧
  (∀ (s : State) (fresh : Option Event) (since : Time) (e : Event) (kind : Byte),
    s.events.access = .reading fresh since →
    (s.events.queue.head? = some e ∨ (s.events.queue = [] ∧ fresh = some e)) →
    (kind = 0 → exec (.eventKindRead kind) s = .next { s with events := { s.events with
      access := .writing fresh s.events.loss (eventCells s.regs s.events.position e s.events.loss) } }) ∧
    (kind ≠ 0 → s.events.handed = [] →
      (∃ q, HoldsFresh fresh s.events q ∧
        exec (.eventKindRead kind) s = .next { s with events := { q with access := .none } }) ∧
      (s.events.queue = [] → exec (.eventKindRead kind) s =
        .next { s with events := { s.events with access := .none, queue := [e] } }))) ∧
  (∀ (s : State) (e : Event), s.regs.fenced.events = true → s.events.access = .none → s.events.handed = [] →
    ∃ q, Holds e s.events q ∧ handEvents s [e] = { s with events := q }) ∧
  (∀ (s : State) (fresh : Option Event) (loss : Bool) (cells : List Host.Cell) (offset : BitVec 32),
    s.events.access = .writing fresh loss cells → s.events.handed = [] → WritesAt s offset cells →
    ∃ q, HoldsFresh fresh s.events q ∧ exec (.accessFailure .eventWrite offset) s = .next
      { failed s .events true offset.toNat with
        area := landedImage s s.area offset cells, events := { q with access := .none } }) ∧
  (∀ (s : State) (fresh : Option Event) (loss : Bool) (cells : List Host.Cell),
    s.events.access = .writing fresh loss cells →
    let written : EventPublisher := { s.events with
      position := (s.events.position + 1) % 32, queue := s.events.queue.tail, loss := s.events.loss && !loss }
    let waiting : Option Event := if s.events.queue = [] then none else fresh
    ∃ t, exec .eventPublished s = .next t ∧
      t = { s with
        events := t.events
        regs := { s.regs with causes := s.regs.causes ||| 0x08#7 }
        area := t.area } ∧
      (written.queue ≠ [] ∨ waiting.isSome = true → t.events = { written with access := .reading waiting s.clock }) ∧
      (written.queue = [] → waiting = none → s.events.handed = [] → t.events = { written with access := .none }) ∧
      (written.queue = [] → waiting = none → ∀ x xs, s.events.handed = x :: xs → t.events =
        runEvents s.regs.fenced.events s.clock (x :: xs) { written with access := .none }) ∧
      WrittenThereAlone s.area t.area cells)

/-! ### Failures -/

/-- A read fails (R195, R196): of a frame slot, a pen slot or an event record by the Publisher (R178, R181,
R182), its stream is fenced, the failure reported, nothing is written, no position advances, and what was
offered is kept, a new event held; of a command record (R172), the record is not taken and the pass ends;
of a parameter list or a zone record by the command in flight (R154, R156, R172), the command is refused
with MEMORY_FAULT and its counts, the staging copies discarded, and COMMANDS is fenced once the result is
written. A read that has had no completion 10,000 microseconds after its request fails the same way, and
not before. That a read fails at the first offset of what it reads, and at no other, is the model's choice
(log 43); so is how a later failure is counted while a write that a FAULT clear overtook is in progress (log
44), and that what waits for the access is taken at its end is its reading (log 6). -/
def Obligations.FailedReadsFenceTheirStream : Prop :=
  (∀ (s : State) (sf : Surface) (since : Time) (offset : BitVec 32),
    let u := surfaceOf s sf
    u.publisher.access = .reading since → offset.toNat = frameSlotOffset sf u.publisher.index →
    exec (.accessFailure (.frameSlotRead sf) offset) s = .next (withSurface
      (failed s (frameStream sf) false offset.toNat) sf
      { u with publisher := fencedFrames sf s }) ∧
    (u.publisher.handed = [] → fencedFrames sf s = { u.publisher with access := .none })) ∧
  (∀ (s : State) (since : Time) (offset : BitVec 32),
    s.penOut.access = .reading since → offset.toNat = 0x0C00 + 64 * s.penOut.index →
    exec (.accessFailure .penSlotRead offset) s = .next
      { failed s .pen false offset.toNat with
        penOut := fencedSamples s } ∧
    (s.penOut.handed = [] → fencedSamples s = { s.penOut with access := .none })) ∧
  (∀ (s : State) (fresh : Option Event) (since : Time) (offset : BitVec 32),
    s.events.access = .reading fresh since → s.events.handed = [] →
    offset.toNat = 0x0800 + 32 * s.events.position →
    ∃ q, HoldsFresh fresh s.events q ∧ exec (.accessFailure .eventKindRead offset) s = .next
      { failed s .events false offset.toNat with events := { q with access := .none } }) ∧
  (∀ (s : State) (p : Pass) (offset : BitVec 32), s.command.pass = some p → s.command.inFlight = none →
    offset.toNat = 64 * p.index →
    exec (.accessFailure .recordRead offset) s = .next
      { failed s .commands false offset.toNat with
        command := { s.command with pass := none, scan := scanEnds s p.last } }) ∧
  (∀ (s : State) (f : InFlight) (offset : BitVec 32),
    let record := recordOffset f.record
    let refused (counts : List Byte) : State := withResult
      { reported s .commands false offset.toNat with
        posture := { s.posture with staging := none, zoneStaging := none } }
      { f with fenceAfter := true } 20 0 counts
    let pair (a b : Nat) : List Byte := leBytes 2 a ++ leBytes 2 b ++ List.replicate 28 0
    (InFlightAs s 1 f →
      (s.posture.staging = none → OffsetAccepted record 8 → offset.toNat = record →
        exec (.accessFailure .dataRead offset) s = .next (refused (pair 0 0))) ∧
      (∀ g, s.posture.staging = some g → offset.toNat = record + 8 + 8 * g.applied →
        exec (.accessFailure .dataRead offset) s = .next (refused (pair g.skipped g.clamped)))) ∧
    (InFlightAs s 2 f → OffsetAccepted record (16 * numAt f.record 5) →
      let g := s.posture.zoneStaging.getD { places := [], clamped := 0, dropped := 0 }
      g.places.length < numAt f.record 5 → offset.toNat = record + 16 * g.places.length →
      exec (.accessFailure .dataRead offset) s = .next (refused
        ([BitVec.ofNat 8 g.clamped, BitVec.ofNat 8 g.dropped] ++ List.replicate 30 0)))) ∧
  (∀ (acc : Access) (offset : BitVec 32) (s : State) (since : Time), readSince acc s = some since →
    (10000 ≤ (s.clock - since).toNat →
      exec (.readTimeout acc offset) s = exec (.accessFailure acc offset) s) ∧
    ((s.clock - since).toNat < 10000 → exec (.readTimeout acc offset) s = .next s))

/-- The fields of the fault record (Table 8-6). -/
def faultFields (x : StoredFailure) (later : Nat) : List (Nat × Nat × Nat) :=
  [ (0, 1, 1), (1, 1, codeOf [.padFrames, .screenFrames, .pen, .events, .commands] x.stream),
    (2, 1, flagField [x.write]), (3, 1, later), (4, 4, x.offset), (8, 4, x.time.toNat), (12, 52, 0) ]

/-- A fault record's bytes are those of Table 8-6, its recorded byte last. A fault record write succeeds (R196):
its bytes are in memory, there alone, the state is WRITTEN and FAULT is set; a write queued behind it begins
with the stored failure and the count as it then stands. A write that a clear of FAULT overtook sets neither (R197). -/
def Obligations.FaultRecordedSetsFault : Prop :=
  (∀ (r : Registers) (x : StoredFailure) (later : Nat),
    RecordWrites r 0x0400 (faultFields x later) 1 (faultCells r x later)) ∧
  ∀ (s : State) (w : RecordWrite), s.fault.write = some w →
    ∃ t, exec .faultRecorded s = .next t ∧
      t = { s with regs := t.regs, fault := t.fault, area := t.area } ∧ WrittenThereAlone s.area t.area w.cells ∧
      (w.stale = false → t.fault.written = true ∧ t.regs = { s.regs with causes := s.regs.causes ||| 0x40#7 }) ∧
      (w.stale = true → t.fault.written = s.fault.written ∧ t.regs = s.regs) ∧
      t.fault.stored = s.fault.stored ∧ t.fault.later = s.fault.later ∧
      (w.again = false → t.fault.write = none) ∧
      (∀ x, w.again = true → s.fault.stored = some x →
        t.fault.write = some { cells := faultCells s.regs x s.fault.later, again := false, stale := false })

end
end

