-- ==== Sys2Proof/Laws/State.lean ====
section
/-! SUPPORT. What each shared operation leaves unchanged, field by field: one lemma per field per update. -/

set_option Elab.async false  -- many small theorems: one at a time, so that threads stay few

namespace Sys2Proof.Machine

@[simp] theorem putCells_clock (s : State) (l : List Host.Cell) : (putCells s l).clock = s.clock := rfl
@[simp] theorem putCells_latch (s : State) (l : List Host.Cell) : (putCells s l).latch = s.latch := rfl
@[simp] theorem putCells_regs (s : State) (l : List Host.Cell) : (putCells s l).regs = s.regs := rfl
@[simp] theorem putCells_pad (s : State) (l : List Host.Cell) : (putCells s l).pad = s.pad := rfl
@[simp] theorem putCells_screen (s : State) (l : List Host.Cell) : (putCells s l).screen = s.screen := rfl
@[simp] theorem putCells_suspension (s : State) (l : List Host.Cell) : (putCells s l).suspension = s.suspension := rfl
@[simp] theorem putCells_gestures (s : State) (l : List Host.Cell) : (putCells s l).gestures = s.gestures := rfl
@[simp] theorem putCells_pen (s : State) (l : List Host.Cell) : (putCells s l).pen = s.pen := rfl
@[simp] theorem putCells_penOut (s : State) (l : List Host.Cell) : (putCells s l).penOut = s.penOut := rfl
@[simp] theorem putCells_events (s : State) (l : List Host.Cell) : (putCells s l).events = s.events := rfl
@[simp] theorem putCells_inputs (s : State) (l : List Host.Cell) : (putCells s l).inputs = s.inputs := rfl
@[simp] theorem putCells_posture (s : State) (l : List Host.Cell) : (putCells s l).posture = s.posture := rfl
@[simp] theorem putCells_command (s : State) (l : List Host.Cell) : (putCells s l).command = s.command := rfl
@[simp] theorem putCells_fault (s : State) (l : List Host.Cell) : (putCells s l).fault = s.fault := rfl
@[simp] theorem putCells_wakeReported (s : State) (l : List Host.Cell) : (putCells s l).wakeReported = s.wakeReported := rfl
@[simp] theorem putCells_readData (s : State) (l : List Host.Cell) : (putCells s l).readData = s.readData := rfl
@[simp] theorem putCells_pending (s : State) (l : List Host.Cell) : (putCells s l).pending = s.pending := rfl

@[simp] theorem setCause_clock (s : State) (c : Cause) : (setCause s c).clock = s.clock := rfl
@[simp] theorem setCause_latch (s : State) (c : Cause) : (setCause s c).latch = s.latch := rfl
@[simp] theorem setCause_pad (s : State) (c : Cause) : (setCause s c).pad = s.pad := rfl
@[simp] theorem setCause_screen (s : State) (c : Cause) : (setCause s c).screen = s.screen := rfl
@[simp] theorem setCause_suspension (s : State) (c : Cause) : (setCause s c).suspension = s.suspension := rfl
@[simp] theorem setCause_gestures (s : State) (c : Cause) : (setCause s c).gestures = s.gestures := rfl
@[simp] theorem setCause_pen (s : State) (c : Cause) : (setCause s c).pen = s.pen := rfl
@[simp] theorem setCause_penOut (s : State) (c : Cause) : (setCause s c).penOut = s.penOut := rfl
@[simp] theorem setCause_events (s : State) (c : Cause) : (setCause s c).events = s.events := rfl
@[simp] theorem setCause_inputs (s : State) (c : Cause) : (setCause s c).inputs = s.inputs := rfl
@[simp] theorem setCause_posture (s : State) (c : Cause) : (setCause s c).posture = s.posture := rfl
@[simp] theorem setCause_command (s : State) (c : Cause) : (setCause s c).command = s.command := rfl
@[simp] theorem setCause_fault (s : State) (c : Cause) : (setCause s c).fault = s.fault := rfl
@[simp] theorem setCause_wakeReported (s : State) (c : Cause) : (setCause s c).wakeReported = s.wakeReported := rfl
@[simp] theorem setCause_area (s : State) (c : Cause) : (setCause s c).area = s.area := rfl
@[simp] theorem setCause_readData (s : State) (c : Cause) : (setCause s c).readData = s.readData := rfl
@[simp] theorem setCause_pending (s : State) (c : Cause) : (setCause s c).pending = s.pending := rfl

@[simp] theorem fence_clock (s : State) (t : Stream) : (fence s t).clock = s.clock := rfl
@[simp] theorem fence_latch (s : State) (t : Stream) : (fence s t).latch = s.latch := rfl
@[simp] theorem fence_pad (s : State) (t : Stream) : (fence s t).pad = s.pad := rfl
@[simp] theorem fence_screen (s : State) (t : Stream) : (fence s t).screen = s.screen := rfl
@[simp] theorem fence_suspension (s : State) (t : Stream) : (fence s t).suspension = s.suspension := rfl
@[simp] theorem fence_gestures (s : State) (t : Stream) : (fence s t).gestures = s.gestures := rfl
@[simp] theorem fence_pen (s : State) (t : Stream) : (fence s t).pen = s.pen := rfl
@[simp] theorem fence_penOut (s : State) (t : Stream) : (fence s t).penOut = s.penOut := rfl
@[simp] theorem fence_events (s : State) (t : Stream) : (fence s t).events = s.events := rfl
@[simp] theorem fence_inputs (s : State) (t : Stream) : (fence s t).inputs = s.inputs := rfl
@[simp] theorem fence_posture (s : State) (t : Stream) : (fence s t).posture = s.posture := rfl
@[simp] theorem fence_command (s : State) (t : Stream) : (fence s t).command = s.command := rfl
@[simp] theorem fence_fault (s : State) (t : Stream) : (fence s t).fault = s.fault := rfl
@[simp] theorem fence_wakeReported (s : State) (t : Stream) : (fence s t).wakeReported = s.wakeReported := rfl
@[simp] theorem fence_area (s : State) (t : Stream) : (fence s t).area = s.area := rfl
@[simp] theorem fence_readData (s : State) (t : Stream) : (fence s t).readData = s.readData := rfl
@[simp] theorem fence_pending (s : State) (t : Stream) : (fence s t).pending = s.pending := rfl

@[simp] theorem report_clock (s : State) (t : Stream) (w : Bool) (o : Nat) : (report s t w o).clock = s.clock := rfl
@[simp] theorem report_latch (s : State) (t : Stream) (w : Bool) (o : Nat) : (report s t w o).latch = s.latch := rfl
@[simp] theorem report_regs (s : State) (t : Stream) (w : Bool) (o : Nat) : (report s t w o).regs = s.regs := rfl
@[simp] theorem report_pad (s : State) (t : Stream) (w : Bool) (o : Nat) : (report s t w o).pad = s.pad := rfl
@[simp] theorem report_screen (s : State) (t : Stream) (w : Bool) (o : Nat) : (report s t w o).screen = s.screen := rfl
@[simp] theorem report_suspension (s : State) (t : Stream) (w : Bool) (o : Nat) : (report s t w o).suspension = s.suspension := rfl
@[simp] theorem report_gestures (s : State) (t : Stream) (w : Bool) (o : Nat) : (report s t w o).gestures = s.gestures := rfl
@[simp] theorem report_pen (s : State) (t : Stream) (w : Bool) (o : Nat) : (report s t w o).pen = s.pen := rfl
@[simp] theorem report_penOut (s : State) (t : Stream) (w : Bool) (o : Nat) : (report s t w o).penOut = s.penOut := rfl
@[simp] theorem report_events (s : State) (t : Stream) (w : Bool) (o : Nat) : (report s t w o).events = s.events := rfl
@[simp] theorem report_inputs (s : State) (t : Stream) (w : Bool) (o : Nat) : (report s t w o).inputs = s.inputs := rfl
@[simp] theorem report_posture (s : State) (t : Stream) (w : Bool) (o : Nat) : (report s t w o).posture = s.posture := rfl
@[simp] theorem report_command (s : State) (t : Stream) (w : Bool) (o : Nat) : (report s t w o).command = s.command := rfl
@[simp] theorem report_wakeReported (s : State) (t : Stream) (w : Bool) (o : Nat) : (report s t w o).wakeReported = s.wakeReported := rfl
@[simp] theorem report_area (s : State) (t : Stream) (w : Bool) (o : Nat) : (report s t w o).area = s.area := rfl
@[simp] theorem report_readData (s : State) (t : Stream) (w : Bool) (o : Nat) : (report s t w o).readData = s.readData := rfl
@[simp] theorem report_pending (s : State) (t : Stream) (w : Bool) (o : Nat) : (report s t w o).pending = s.pending := rfl

@[simp] theorem failStream_clock (s : State) (t : Stream) (w : Bool) (o : Nat) : (failStream s t w o).clock = s.clock := rfl
@[simp] theorem failStream_latch (s : State) (t : Stream) (w : Bool) (o : Nat) : (failStream s t w o).latch = s.latch := rfl
@[simp] theorem failStream_pad (s : State) (t : Stream) (w : Bool) (o : Nat) : (failStream s t w o).pad = s.pad := rfl
@[simp] theorem failStream_screen (s : State) (t : Stream) (w : Bool) (o : Nat) : (failStream s t w o).screen = s.screen := rfl
@[simp] theorem failStream_suspension (s : State) (t : Stream) (w : Bool) (o : Nat) : (failStream s t w o).suspension = s.suspension := rfl
@[simp] theorem failStream_gestures (s : State) (t : Stream) (w : Bool) (o : Nat) : (failStream s t w o).gestures = s.gestures := rfl
@[simp] theorem failStream_pen (s : State) (t : Stream) (w : Bool) (o : Nat) : (failStream s t w o).pen = s.pen := rfl
@[simp] theorem failStream_penOut (s : State) (t : Stream) (w : Bool) (o : Nat) : (failStream s t w o).penOut = s.penOut := rfl
@[simp] theorem failStream_events (s : State) (t : Stream) (w : Bool) (o : Nat) : (failStream s t w o).events = s.events := rfl
@[simp] theorem failStream_inputs (s : State) (t : Stream) (w : Bool) (o : Nat) : (failStream s t w o).inputs = s.inputs := rfl
@[simp] theorem failStream_posture (s : State) (t : Stream) (w : Bool) (o : Nat) : (failStream s t w o).posture = s.posture := rfl
@[simp] theorem failStream_command (s : State) (t : Stream) (w : Bool) (o : Nat) : (failStream s t w o).command = s.command := rfl
@[simp] theorem failStream_wakeReported (s : State) (t : Stream) (w : Bool) (o : Nat) : (failStream s t w o).wakeReported = s.wakeReported := rfl
@[simp] theorem failStream_area (s : State) (t : Stream) (w : Bool) (o : Nat) : (failStream s t w o).area = s.area := rfl
@[simp] theorem failStream_readData (s : State) (t : Stream) (w : Bool) (o : Nat) : (failStream s t w o).readData = s.readData := rfl
@[simp] theorem failStream_pending (s : State) (t : Stream) (w : Bool) (o : Nat) : (failStream s t w o).pending = s.pending := rfl

@[simp] theorem withSurface_clock (s : State) (sf : Surface) (u : SurfaceUnit) : (withSurface s sf u).clock = s.clock := by cases sf <;> rfl
@[simp] theorem withSurface_latch (s : State) (sf : Surface) (u : SurfaceUnit) : (withSurface s sf u).latch = s.latch := by cases sf <;> rfl
@[simp] theorem withSurface_regs (s : State) (sf : Surface) (u : SurfaceUnit) : (withSurface s sf u).regs = s.regs := by cases sf <;> rfl
@[simp] theorem withSurface_suspension (s : State) (sf : Surface) (u : SurfaceUnit) : (withSurface s sf u).suspension = s.suspension := by cases sf <;> rfl
@[simp] theorem withSurface_gestures (s : State) (sf : Surface) (u : SurfaceUnit) : (withSurface s sf u).gestures = s.gestures := by cases sf <;> rfl
@[simp] theorem withSurface_pen (s : State) (sf : Surface) (u : SurfaceUnit) : (withSurface s sf u).pen = s.pen := by cases sf <;> rfl
@[simp] theorem withSurface_penOut (s : State) (sf : Surface) (u : SurfaceUnit) : (withSurface s sf u).penOut = s.penOut := by cases sf <;> rfl
@[simp] theorem withSurface_events (s : State) (sf : Surface) (u : SurfaceUnit) : (withSurface s sf u).events = s.events := by cases sf <;> rfl
@[simp] theorem withSurface_inputs (s : State) (sf : Surface) (u : SurfaceUnit) : (withSurface s sf u).inputs = s.inputs := by cases sf <;> rfl
@[simp] theorem withSurface_posture (s : State) (sf : Surface) (u : SurfaceUnit) : (withSurface s sf u).posture = s.posture := by cases sf <;> rfl
@[simp] theorem withSurface_command (s : State) (sf : Surface) (u : SurfaceUnit) : (withSurface s sf u).command = s.command := by cases sf <;> rfl
@[simp] theorem withSurface_fault (s : State) (sf : Surface) (u : SurfaceUnit) : (withSurface s sf u).fault = s.fault := by cases sf <;> rfl
@[simp] theorem withSurface_wakeReported (s : State) (sf : Surface) (u : SurfaceUnit) : (withSurface s sf u).wakeReported = s.wakeReported := by cases sf <;> rfl
@[simp] theorem withSurface_area (s : State) (sf : Surface) (u : SurfaceUnit) : (withSurface s sf u).area = s.area := by cases sf <;> rfl
@[simp] theorem withSurface_readData (s : State) (sf : Surface) (u : SurfaceUnit) : (withSurface s sf u).readData = s.readData := by cases sf <;> rfl
@[simp] theorem withSurface_pending (s : State) (sf : Surface) (u : SurfaceUnit) : (withSurface s sf u).pending = s.pending := by cases sf <;> rfl

@[simp] theorem handFrame_clock (s : State) (sf : Surface) (h : Handover) : (handFrame s sf h).clock = s.clock := by cases sf <;> rfl
@[simp] theorem handFrame_latch (s : State) (sf : Surface) (h : Handover) : (handFrame s sf h).latch = s.latch := by cases sf <;> rfl
@[simp] theorem handFrame_regs (s : State) (sf : Surface) (h : Handover) : (handFrame s sf h).regs = s.regs := by cases sf <;> rfl
@[simp] theorem handFrame_suspension (s : State) (sf : Surface) (h : Handover) : (handFrame s sf h).suspension = s.suspension := by cases sf <;> rfl
@[simp] theorem handFrame_gestures (s : State) (sf : Surface) (h : Handover) : (handFrame s sf h).gestures = s.gestures := by cases sf <;> rfl
@[simp] theorem handFrame_pen (s : State) (sf : Surface) (h : Handover) : (handFrame s sf h).pen = s.pen := by cases sf <;> rfl
@[simp] theorem handFrame_penOut (s : State) (sf : Surface) (h : Handover) : (handFrame s sf h).penOut = s.penOut := by cases sf <;> rfl
@[simp] theorem handFrame_events (s : State) (sf : Surface) (h : Handover) : (handFrame s sf h).events = s.events := by cases sf <;> rfl
@[simp] theorem handFrame_inputs (s : State) (sf : Surface) (h : Handover) : (handFrame s sf h).inputs = s.inputs := by cases sf <;> rfl
@[simp] theorem handFrame_posture (s : State) (sf : Surface) (h : Handover) : (handFrame s sf h).posture = s.posture := by cases sf <;> rfl
@[simp] theorem handFrame_command (s : State) (sf : Surface) (h : Handover) : (handFrame s sf h).command = s.command := by cases sf <;> rfl
@[simp] theorem handFrame_fault (s : State) (sf : Surface) (h : Handover) : (handFrame s sf h).fault = s.fault := by cases sf <;> rfl
@[simp] theorem handFrame_wakeReported (s : State) (sf : Surface) (h : Handover) : (handFrame s sf h).wakeReported = s.wakeReported := by cases sf <;> rfl
@[simp] theorem handFrame_area (s : State) (sf : Surface) (h : Handover) : (handFrame s sf h).area = s.area := by cases sf <;> rfl
@[simp] theorem handFrame_readData (s : State) (sf : Surface) (h : Handover) : (handFrame s sf h).readData = s.readData := by cases sf <;> rfl
@[simp] theorem handFrame_pending (s : State) (sf : Surface) (h : Handover) : (handFrame s sf h).pending = s.pending := by cases sf <;> rfl

@[simp] theorem resumeFrames_clock (s : State) (sf : Surface) : (resumeFrames s sf).clock = s.clock := by cases sf <;> rfl
@[simp] theorem resumeFrames_latch (s : State) (sf : Surface) : (resumeFrames s sf).latch = s.latch := by cases sf <;> rfl
@[simp] theorem resumeFrames_regs (s : State) (sf : Surface) : (resumeFrames s sf).regs = s.regs := by cases sf <;> rfl
@[simp] theorem resumeFrames_suspension (s : State) (sf : Surface) : (resumeFrames s sf).suspension = s.suspension := by cases sf <;> rfl
@[simp] theorem resumeFrames_gestures (s : State) (sf : Surface) : (resumeFrames s sf).gestures = s.gestures := by cases sf <;> rfl
@[simp] theorem resumeFrames_pen (s : State) (sf : Surface) : (resumeFrames s sf).pen = s.pen := by cases sf <;> rfl
@[simp] theorem resumeFrames_penOut (s : State) (sf : Surface) : (resumeFrames s sf).penOut = s.penOut := by cases sf <;> rfl
@[simp] theorem resumeFrames_events (s : State) (sf : Surface) : (resumeFrames s sf).events = s.events := by cases sf <;> rfl
@[simp] theorem resumeFrames_inputs (s : State) (sf : Surface) : (resumeFrames s sf).inputs = s.inputs := by cases sf <;> rfl
@[simp] theorem resumeFrames_posture (s : State) (sf : Surface) : (resumeFrames s sf).posture = s.posture := by cases sf <;> rfl
@[simp] theorem resumeFrames_command (s : State) (sf : Surface) : (resumeFrames s sf).command = s.command := by cases sf <;> rfl
@[simp] theorem resumeFrames_fault (s : State) (sf : Surface) : (resumeFrames s sf).fault = s.fault := by cases sf <;> rfl
@[simp] theorem resumeFrames_wakeReported (s : State) (sf : Surface) : (resumeFrames s sf).wakeReported = s.wakeReported := by cases sf <;> rfl
@[simp] theorem resumeFrames_area (s : State) (sf : Surface) : (resumeFrames s sf).area = s.area := by cases sf <;> rfl
@[simp] theorem resumeFrames_readData (s : State) (sf : Surface) : (resumeFrames s sf).readData = s.readData := by cases sf <;> rfl
@[simp] theorem resumeFrames_pending (s : State) (sf : Surface) : (resumeFrames s sf).pending = s.pending := by cases sf <;> rfl

@[simp] theorem handSamples_clock (s : State) (l : List PenSample) : (handSamples s l).clock = s.clock := rfl
@[simp] theorem handSamples_latch (s : State) (l : List PenSample) : (handSamples s l).latch = s.latch := rfl
@[simp] theorem handSamples_regs (s : State) (l : List PenSample) : (handSamples s l).regs = s.regs := rfl
@[simp] theorem handSamples_pad (s : State) (l : List PenSample) : (handSamples s l).pad = s.pad := rfl
@[simp] theorem handSamples_screen (s : State) (l : List PenSample) : (handSamples s l).screen = s.screen := rfl
@[simp] theorem handSamples_suspension (s : State) (l : List PenSample) : (handSamples s l).suspension = s.suspension := rfl
@[simp] theorem handSamples_gestures (s : State) (l : List PenSample) : (handSamples s l).gestures = s.gestures := rfl
@[simp] theorem handSamples_pen (s : State) (l : List PenSample) : (handSamples s l).pen = s.pen := rfl
@[simp] theorem handSamples_events (s : State) (l : List PenSample) : (handSamples s l).events = s.events := rfl
@[simp] theorem handSamples_inputs (s : State) (l : List PenSample) : (handSamples s l).inputs = s.inputs := rfl
@[simp] theorem handSamples_posture (s : State) (l : List PenSample) : (handSamples s l).posture = s.posture := rfl
@[simp] theorem handSamples_command (s : State) (l : List PenSample) : (handSamples s l).command = s.command := rfl
@[simp] theorem handSamples_fault (s : State) (l : List PenSample) : (handSamples s l).fault = s.fault := rfl
@[simp] theorem handSamples_wakeReported (s : State) (l : List PenSample) : (handSamples s l).wakeReported = s.wakeReported := rfl
@[simp] theorem handSamples_area (s : State) (l : List PenSample) : (handSamples s l).area = s.area := rfl
@[simp] theorem handSamples_readData (s : State) (l : List PenSample) : (handSamples s l).readData = s.readData := rfl
@[simp] theorem handSamples_pending (s : State) (l : List PenSample) : (handSamples s l).pending = s.pending := rfl

@[simp] theorem resumeSamples_clock (s : State) : (resumeSamples s).clock = s.clock := rfl
@[simp] theorem resumeSamples_latch (s : State) : (resumeSamples s).latch = s.latch := rfl
@[simp] theorem resumeSamples_regs (s : State) : (resumeSamples s).regs = s.regs := rfl
@[simp] theorem resumeSamples_pad (s : State) : (resumeSamples s).pad = s.pad := rfl
@[simp] theorem resumeSamples_screen (s : State) : (resumeSamples s).screen = s.screen := rfl
@[simp] theorem resumeSamples_suspension (s : State) : (resumeSamples s).suspension = s.suspension := rfl
@[simp] theorem resumeSamples_gestures (s : State) : (resumeSamples s).gestures = s.gestures := rfl
@[simp] theorem resumeSamples_pen (s : State) : (resumeSamples s).pen = s.pen := rfl
@[simp] theorem resumeSamples_events (s : State) : (resumeSamples s).events = s.events := rfl
@[simp] theorem resumeSamples_inputs (s : State) : (resumeSamples s).inputs = s.inputs := rfl
@[simp] theorem resumeSamples_posture (s : State) : (resumeSamples s).posture = s.posture := rfl
@[simp] theorem resumeSamples_command (s : State) : (resumeSamples s).command = s.command := rfl
@[simp] theorem resumeSamples_fault (s : State) : (resumeSamples s).fault = s.fault := rfl
@[simp] theorem resumeSamples_wakeReported (s : State) : (resumeSamples s).wakeReported = s.wakeReported := rfl
@[simp] theorem resumeSamples_area (s : State) : (resumeSamples s).area = s.area := rfl
@[simp] theorem resumeSamples_readData (s : State) : (resumeSamples s).readData = s.readData := rfl
@[simp] theorem resumeSamples_pending (s : State) : (resumeSamples s).pending = s.pending := rfl

@[simp] theorem handItems_clock (s : State) (l : List (Option Event)) : (handItems s l).clock = s.clock := rfl
@[simp] theorem handItems_latch (s : State) (l : List (Option Event)) : (handItems s l).latch = s.latch := rfl
@[simp] theorem handItems_regs (s : State) (l : List (Option Event)) : (handItems s l).regs = s.regs := rfl
@[simp] theorem handItems_pad (s : State) (l : List (Option Event)) : (handItems s l).pad = s.pad := rfl
@[simp] theorem handItems_screen (s : State) (l : List (Option Event)) : (handItems s l).screen = s.screen := rfl
@[simp] theorem handItems_suspension (s : State) (l : List (Option Event)) : (handItems s l).suspension = s.suspension := rfl
@[simp] theorem handItems_gestures (s : State) (l : List (Option Event)) : (handItems s l).gestures = s.gestures := rfl
@[simp] theorem handItems_pen (s : State) (l : List (Option Event)) : (handItems s l).pen = s.pen := rfl
@[simp] theorem handItems_penOut (s : State) (l : List (Option Event)) : (handItems s l).penOut = s.penOut := rfl
@[simp] theorem handItems_inputs (s : State) (l : List (Option Event)) : (handItems s l).inputs = s.inputs := rfl
@[simp] theorem handItems_posture (s : State) (l : List (Option Event)) : (handItems s l).posture = s.posture := rfl
@[simp] theorem handItems_command (s : State) (l : List (Option Event)) : (handItems s l).command = s.command := rfl
@[simp] theorem handItems_fault (s : State) (l : List (Option Event)) : (handItems s l).fault = s.fault := rfl
@[simp] theorem handItems_wakeReported (s : State) (l : List (Option Event)) : (handItems s l).wakeReported = s.wakeReported := rfl
@[simp] theorem handItems_area (s : State) (l : List (Option Event)) : (handItems s l).area = s.area := rfl
@[simp] theorem handItems_readData (s : State) (l : List (Option Event)) : (handItems s l).readData = s.readData := rfl
@[simp] theorem handItems_pending (s : State) (l : List (Option Event)) : (handItems s l).pending = s.pending := rfl

@[simp] theorem handEvents_clock (s : State) (l : List Event) : (handEvents s l).clock = s.clock := rfl
@[simp] theorem handEvents_latch (s : State) (l : List Event) : (handEvents s l).latch = s.latch := rfl
@[simp] theorem handEvents_regs (s : State) (l : List Event) : (handEvents s l).regs = s.regs := rfl
@[simp] theorem handEvents_pad (s : State) (l : List Event) : (handEvents s l).pad = s.pad := rfl
@[simp] theorem handEvents_screen (s : State) (l : List Event) : (handEvents s l).screen = s.screen := rfl
@[simp] theorem handEvents_suspension (s : State) (l : List Event) : (handEvents s l).suspension = s.suspension := rfl
@[simp] theorem handEvents_gestures (s : State) (l : List Event) : (handEvents s l).gestures = s.gestures := rfl
@[simp] theorem handEvents_pen (s : State) (l : List Event) : (handEvents s l).pen = s.pen := rfl
@[simp] theorem handEvents_penOut (s : State) (l : List Event) : (handEvents s l).penOut = s.penOut := rfl
@[simp] theorem handEvents_inputs (s : State) (l : List Event) : (handEvents s l).inputs = s.inputs := rfl
@[simp] theorem handEvents_posture (s : State) (l : List Event) : (handEvents s l).posture = s.posture := rfl
@[simp] theorem handEvents_command (s : State) (l : List Event) : (handEvents s l).command = s.command := rfl
@[simp] theorem handEvents_fault (s : State) (l : List Event) : (handEvents s l).fault = s.fault := rfl
@[simp] theorem handEvents_wakeReported (s : State) (l : List Event) : (handEvents s l).wakeReported = s.wakeReported := rfl
@[simp] theorem handEvents_area (s : State) (l : List Event) : (handEvents s l).area = s.area := rfl
@[simp] theorem handEvents_readData (s : State) (l : List Event) : (handEvents s l).readData = s.readData := rfl
@[simp] theorem handEvents_pending (s : State) (l : List Event) : (handEvents s l).pending = s.pending := rfl

@[simp] theorem drainEvents_clock (s : State) : (drainEvents s).clock = s.clock := rfl
@[simp] theorem drainEvents_latch (s : State) : (drainEvents s).latch = s.latch := rfl
@[simp] theorem drainEvents_regs (s : State) : (drainEvents s).regs = s.regs := rfl
@[simp] theorem drainEvents_pad (s : State) : (drainEvents s).pad = s.pad := rfl
@[simp] theorem drainEvents_screen (s : State) : (drainEvents s).screen = s.screen := rfl
@[simp] theorem drainEvents_suspension (s : State) : (drainEvents s).suspension = s.suspension := rfl
@[simp] theorem drainEvents_gestures (s : State) : (drainEvents s).gestures = s.gestures := rfl
@[simp] theorem drainEvents_pen (s : State) : (drainEvents s).pen = s.pen := rfl
@[simp] theorem drainEvents_penOut (s : State) : (drainEvents s).penOut = s.penOut := rfl
@[simp] theorem drainEvents_inputs (s : State) : (drainEvents s).inputs = s.inputs := rfl
@[simp] theorem drainEvents_posture (s : State) : (drainEvents s).posture = s.posture := rfl
@[simp] theorem drainEvents_command (s : State) : (drainEvents s).command = s.command := rfl
@[simp] theorem drainEvents_fault (s : State) : (drainEvents s).fault = s.fault := rfl
@[simp] theorem drainEvents_wakeReported (s : State) : (drainEvents s).wakeReported = s.wakeReported := rfl
@[simp] theorem drainEvents_area (s : State) : (drainEvents s).area = s.area := rfl
@[simp] theorem drainEvents_readData (s : State) : (drainEvents s).readData = s.readData := rfl
@[simp] theorem drainEvents_pending (s : State) : (drainEvents s).pending = s.pending := rfl

@[simp] theorem resumeEvents_clock (s : State) (p : EventPublisher) : (resumeEvents s p).clock = s.clock := rfl
@[simp] theorem resumeEvents_latch (s : State) (p : EventPublisher) : (resumeEvents s p).latch = s.latch := rfl
@[simp] theorem resumeEvents_regs (s : State) (p : EventPublisher) : (resumeEvents s p).regs = s.regs := rfl
@[simp] theorem resumeEvents_pad (s : State) (p : EventPublisher) : (resumeEvents s p).pad = s.pad := rfl
@[simp] theorem resumeEvents_screen (s : State) (p : EventPublisher) : (resumeEvents s p).screen = s.screen := rfl
@[simp] theorem resumeEvents_suspension (s : State) (p : EventPublisher) : (resumeEvents s p).suspension = s.suspension := rfl
@[simp] theorem resumeEvents_gestures (s : State) (p : EventPublisher) : (resumeEvents s p).gestures = s.gestures := rfl
@[simp] theorem resumeEvents_pen (s : State) (p : EventPublisher) : (resumeEvents s p).pen = s.pen := rfl
@[simp] theorem resumeEvents_penOut (s : State) (p : EventPublisher) : (resumeEvents s p).penOut = s.penOut := rfl
@[simp] theorem resumeEvents_inputs (s : State) (p : EventPublisher) : (resumeEvents s p).inputs = s.inputs := rfl
@[simp] theorem resumeEvents_posture (s : State) (p : EventPublisher) : (resumeEvents s p).posture = s.posture := rfl
@[simp] theorem resumeEvents_command (s : State) (p : EventPublisher) : (resumeEvents s p).command = s.command := rfl
@[simp] theorem resumeEvents_fault (s : State) (p : EventPublisher) : (resumeEvents s p).fault = s.fault := rfl
@[simp] theorem resumeEvents_wakeReported (s : State) (p : EventPublisher) : (resumeEvents s p).wakeReported = s.wakeReported := rfl
@[simp] theorem resumeEvents_area (s : State) (p : EventPublisher) : (resumeEvents s p).area = s.area := rfl
@[simp] theorem resumeEvents_readData (s : State) (p : EventPublisher) : (resumeEvents s p).readData = s.readData := rfl
@[simp] theorem resumeEvents_pending (s : State) (p : EventPublisher) : (resumeEvents s p).pending = s.pending := rfl

@[simp] theorem afterEventWritten_clock (s : State) (e : Option Event) (l : Bool) : (afterEventWritten s e l).clock = s.clock := by simp only [afterEventWritten]; (repeat' split) <;> rfl
@[simp] theorem afterEventWritten_latch (s : State) (e : Option Event) (l : Bool) : (afterEventWritten s e l).latch = s.latch := by simp only [afterEventWritten]; (repeat' split) <;> rfl
@[simp] theorem afterEventWritten_regs (s : State) (e : Option Event) (l : Bool) : (afterEventWritten s e l).regs = s.regs := by simp only [afterEventWritten]; (repeat' split) <;> rfl
@[simp] theorem afterEventWritten_pad (s : State) (e : Option Event) (l : Bool) : (afterEventWritten s e l).pad = s.pad := by simp only [afterEventWritten]; (repeat' split) <;> rfl
@[simp] theorem afterEventWritten_screen (s : State) (e : Option Event) (l : Bool) : (afterEventWritten s e l).screen = s.screen := by simp only [afterEventWritten]; (repeat' split) <;> rfl
@[simp] theorem afterEventWritten_suspension (s : State) (e : Option Event) (l : Bool) : (afterEventWritten s e l).suspension = s.suspension := by simp only [afterEventWritten]; (repeat' split) <;> rfl
@[simp] theorem afterEventWritten_gestures (s : State) (e : Option Event) (l : Bool) : (afterEventWritten s e l).gestures = s.gestures := by simp only [afterEventWritten]; (repeat' split) <;> rfl
@[simp] theorem afterEventWritten_pen (s : State) (e : Option Event) (l : Bool) : (afterEventWritten s e l).pen = s.pen := by simp only [afterEventWritten]; (repeat' split) <;> rfl
@[simp] theorem afterEventWritten_penOut (s : State) (e : Option Event) (l : Bool) : (afterEventWritten s e l).penOut = s.penOut := by simp only [afterEventWritten]; (repeat' split) <;> rfl
@[simp] theorem afterEventWritten_inputs (s : State) (e : Option Event) (l : Bool) : (afterEventWritten s e l).inputs = s.inputs := by simp only [afterEventWritten]; (repeat' split) <;> rfl
@[simp] theorem afterEventWritten_posture (s : State) (e : Option Event) (l : Bool) : (afterEventWritten s e l).posture = s.posture := by simp only [afterEventWritten]; (repeat' split) <;> rfl
@[simp] theorem afterEventWritten_command (s : State) (e : Option Event) (l : Bool) : (afterEventWritten s e l).command = s.command := by simp only [afterEventWritten]; (repeat' split) <;> rfl
@[simp] theorem afterEventWritten_fault (s : State) (e : Option Event) (l : Bool) : (afterEventWritten s e l).fault = s.fault := by simp only [afterEventWritten]; (repeat' split) <;> rfl
@[simp] theorem afterEventWritten_wakeReported (s : State) (e : Option Event) (l : Bool) : (afterEventWritten s e l).wakeReported = s.wakeReported := by simp only [afterEventWritten]; (repeat' split) <;> rfl
@[simp] theorem afterEventWritten_area (s : State) (e : Option Event) (l : Bool) : (afterEventWritten s e l).area = s.area := by simp only [afterEventWritten]; (repeat' split) <;> rfl
@[simp] theorem afterEventWritten_readData (s : State) (e : Option Event) (l : Bool) : (afterEventWritten s e l).readData = s.readData := by simp only [afterEventWritten]; (repeat' split) <;> rfl
@[simp] theorem afterEventWritten_pending (s : State) (e : Option Event) (l : Bool) : (afterEventWritten s e l).pending = s.pending := by simp only [afterEventWritten]; (repeat' split) <;> rfl

@[simp] theorem handPen_clock (s : State) (p : PenStep) : (handPen s p).clock = s.clock := by simp only [handPen]; split <;> rfl
@[simp] theorem handPen_latch (s : State) (p : PenStep) : (handPen s p).latch = s.latch := by simp only [handPen]; split <;> rfl
@[simp] theorem handPen_regs (s : State) (p : PenStep) : (handPen s p).regs = s.regs := by simp only [handPen]; split <;> rfl
@[simp] theorem handPen_pad (s : State) (p : PenStep) : (handPen s p).pad = s.pad := by simp only [handPen]; split <;> rfl
@[simp] theorem handPen_screen (s : State) (p : PenStep) : (handPen s p).screen = s.screen := by simp only [handPen]; split <;> rfl
@[simp] theorem handPen_suspension (s : State) (p : PenStep) : (handPen s p).suspension = s.suspension := by simp only [handPen]; split <;> rfl
@[simp] theorem handPen_gestures (s : State) (p : PenStep) : (handPen s p).gestures = s.gestures := by simp only [handPen]; split <;> rfl
@[simp] theorem handPen_inputs (s : State) (p : PenStep) : (handPen s p).inputs = s.inputs := by simp only [handPen]; split <;> rfl
@[simp] theorem handPen_posture (s : State) (p : PenStep) : (handPen s p).posture = s.posture := by simp only [handPen]; split <;> rfl
@[simp] theorem handPen_command (s : State) (p : PenStep) : (handPen s p).command = s.command := by simp only [handPen]; split <;> rfl
@[simp] theorem handPen_fault (s : State) (p : PenStep) : (handPen s p).fault = s.fault := by simp only [handPen]; split <;> rfl
@[simp] theorem handPen_wakeReported (s : State) (p : PenStep) : (handPen s p).wakeReported = s.wakeReported := by simp only [handPen]; split <;> rfl
@[simp] theorem handPen_area (s : State) (p : PenStep) : (handPen s p).area = s.area := by simp only [handPen]; split <;> rfl
@[simp] theorem handPen_readData (s : State) (p : PenStep) : (handPen s p).readData = s.readData := by simp only [handPen]; split <;> rfl
@[simp] theorem handPen_pending (s : State) (p : PenStep) : (handPen s p).pending = s.pending := by simp only [handPen]; split <;> rfl

@[simp] theorem closeSilently_clock (s : State) : (closeSilently s).clock = s.clock := rfl
@[simp] theorem closeSilently_latch (s : State) : (closeSilently s).latch = s.latch := rfl
@[simp] theorem closeSilently_regs (s : State) : (closeSilently s).regs = s.regs := rfl
@[simp] theorem closeSilently_pad (s : State) : (closeSilently s).pad = s.pad := rfl
@[simp] theorem closeSilently_screen (s : State) : (closeSilently s).screen = s.screen := rfl
@[simp] theorem closeSilently_suspension (s : State) : (closeSilently s).suspension = s.suspension := rfl
@[simp] theorem closeSilently_gestures (s : State) : (closeSilently s).gestures = s.gestures := rfl
@[simp] theorem closeSilently_penOut (s : State) : (closeSilently s).penOut = s.penOut := rfl
@[simp] theorem closeSilently_events (s : State) : (closeSilently s).events = s.events := rfl
@[simp] theorem closeSilently_inputs (s : State) : (closeSilently s).inputs = s.inputs := rfl
@[simp] theorem closeSilently_posture (s : State) : (closeSilently s).posture = s.posture := rfl
@[simp] theorem closeSilently_command (s : State) : (closeSilently s).command = s.command := rfl
@[simp] theorem closeSilently_fault (s : State) : (closeSilently s).fault = s.fault := rfl
@[simp] theorem closeSilently_wakeReported (s : State) : (closeSilently s).wakeReported = s.wakeReported := rfl
@[simp] theorem closeSilently_area (s : State) : (closeSilently s).area = s.area := rfl
@[simp] theorem closeSilently_readData (s : State) : (closeSilently s).readData = s.readData := rfl
@[simp] theorem closeSilently_pending (s : State) : (closeSilently s).pending = s.pending := rfl

@[simp] theorem openChannel_clock (s : State) : (openChannel s).clock = s.clock := rfl
@[simp] theorem openChannel_latch (s : State) : (openChannel s).latch = s.latch := rfl
@[simp] theorem openChannel_regs (s : State) : (openChannel s).regs = s.regs := rfl
@[simp] theorem openChannel_pad (s : State) : (openChannel s).pad = s.pad := rfl
@[simp] theorem openChannel_screen (s : State) : (openChannel s).screen = s.screen := rfl
@[simp] theorem openChannel_suspension (s : State) : (openChannel s).suspension = s.suspension := rfl
@[simp] theorem openChannel_gestures (s : State) : (openChannel s).gestures = s.gestures := rfl
@[simp] theorem openChannel_penOut (s : State) : (openChannel s).penOut = s.penOut := rfl
@[simp] theorem openChannel_events (s : State) : (openChannel s).events = s.events := rfl
@[simp] theorem openChannel_inputs (s : State) : (openChannel s).inputs = s.inputs := rfl
@[simp] theorem openChannel_posture (s : State) : (openChannel s).posture = s.posture := rfl
@[simp] theorem openChannel_command (s : State) : (openChannel s).command = s.command := rfl
@[simp] theorem openChannel_fault (s : State) : (openChannel s).fault = s.fault := rfl
@[simp] theorem openChannel_wakeReported (s : State) : (openChannel s).wakeReported = s.wakeReported := rfl
@[simp] theorem openChannel_area (s : State) : (openChannel s).area = s.area := rfl
@[simp] theorem openChannel_readData (s : State) : (openChannel s).readData = s.readData := rfl
@[simp] theorem openChannel_pending (s : State) : (openChannel s).pending = s.pending := rfl

@[simp] theorem withCommand_clock (s : State) (c : CommandUnit) : (withCommand s c).clock = s.clock := rfl
@[simp] theorem withCommand_latch (s : State) (c : CommandUnit) : (withCommand s c).latch = s.latch := rfl
@[simp] theorem withCommand_regs (s : State) (c : CommandUnit) : (withCommand s c).regs = s.regs := rfl
@[simp] theorem withCommand_pad (s : State) (c : CommandUnit) : (withCommand s c).pad = s.pad := rfl
@[simp] theorem withCommand_screen (s : State) (c : CommandUnit) : (withCommand s c).screen = s.screen := rfl
@[simp] theorem withCommand_suspension (s : State) (c : CommandUnit) : (withCommand s c).suspension = s.suspension := rfl
@[simp] theorem withCommand_gestures (s : State) (c : CommandUnit) : (withCommand s c).gestures = s.gestures := rfl
@[simp] theorem withCommand_pen (s : State) (c : CommandUnit) : (withCommand s c).pen = s.pen := rfl
@[simp] theorem withCommand_penOut (s : State) (c : CommandUnit) : (withCommand s c).penOut = s.penOut := rfl
@[simp] theorem withCommand_events (s : State) (c : CommandUnit) : (withCommand s c).events = s.events := rfl
@[simp] theorem withCommand_inputs (s : State) (c : CommandUnit) : (withCommand s c).inputs = s.inputs := rfl
@[simp] theorem withCommand_posture (s : State) (c : CommandUnit) : (withCommand s c).posture = s.posture := rfl
@[simp] theorem withCommand_fault (s : State) (c : CommandUnit) : (withCommand s c).fault = s.fault := rfl
@[simp] theorem withCommand_wakeReported (s : State) (c : CommandUnit) : (withCommand s c).wakeReported = s.wakeReported := rfl
@[simp] theorem withCommand_area (s : State) (c : CommandUnit) : (withCommand s c).area = s.area := rfl
@[simp] theorem withCommand_readData (s : State) (c : CommandUnit) : (withCommand s c).readData = s.readData := rfl
@[simp] theorem withCommand_pending (s : State) (c : CommandUnit) : (withCommand s c).pending = s.pending := rfl

@[simp] theorem beginPass_clock (s : State) : (beginPass s).clock = s.clock := rfl
@[simp] theorem beginPass_latch (s : State) : (beginPass s).latch = s.latch := rfl
@[simp] theorem beginPass_regs (s : State) : (beginPass s).regs = s.regs := rfl
@[simp] theorem beginPass_pad (s : State) : (beginPass s).pad = s.pad := rfl
@[simp] theorem beginPass_screen (s : State) : (beginPass s).screen = s.screen := rfl
@[simp] theorem beginPass_suspension (s : State) : (beginPass s).suspension = s.suspension := rfl
@[simp] theorem beginPass_gestures (s : State) : (beginPass s).gestures = s.gestures := rfl
@[simp] theorem beginPass_pen (s : State) : (beginPass s).pen = s.pen := rfl
@[simp] theorem beginPass_penOut (s : State) : (beginPass s).penOut = s.penOut := rfl
@[simp] theorem beginPass_events (s : State) : (beginPass s).events = s.events := rfl
@[simp] theorem beginPass_inputs (s : State) : (beginPass s).inputs = s.inputs := rfl
@[simp] theorem beginPass_posture (s : State) : (beginPass s).posture = s.posture := rfl
@[simp] theorem beginPass_fault (s : State) : (beginPass s).fault = s.fault := rfl
@[simp] theorem beginPass_wakeReported (s : State) : (beginPass s).wakeReported = s.wakeReported := rfl
@[simp] theorem beginPass_area (s : State) : (beginPass s).area = s.area := rfl
@[simp] theorem beginPass_readData (s : State) : (beginPass s).readData = s.readData := rfl
@[simp] theorem beginPass_pending (s : State) : (beginPass s).pending = s.pending := rfl

@[simp] theorem takeRescan_clock (s : State) : (takeRescan s).clock = s.clock := by unfold takeRescan; (repeat' split) <;> simp
@[simp] theorem takeRescan_latch (s : State) : (takeRescan s).latch = s.latch := by unfold takeRescan; (repeat' split) <;> simp
@[simp] theorem takeRescan_regs (s : State) : (takeRescan s).regs = s.regs := by unfold takeRescan; (repeat' split) <;> simp
@[simp] theorem takeRescan_pad (s : State) : (takeRescan s).pad = s.pad := by unfold takeRescan; (repeat' split) <;> simp
@[simp] theorem takeRescan_screen (s : State) : (takeRescan s).screen = s.screen := by unfold takeRescan; (repeat' split) <;> simp
@[simp] theorem takeRescan_suspension (s : State) : (takeRescan s).suspension = s.suspension := by unfold takeRescan; (repeat' split) <;> simp
@[simp] theorem takeRescan_gestures (s : State) : (takeRescan s).gestures = s.gestures := by unfold takeRescan; (repeat' split) <;> simp
@[simp] theorem takeRescan_pen (s : State) : (takeRescan s).pen = s.pen := by unfold takeRescan; (repeat' split) <;> simp
@[simp] theorem takeRescan_penOut (s : State) : (takeRescan s).penOut = s.penOut := by unfold takeRescan; (repeat' split) <;> simp
@[simp] theorem takeRescan_events (s : State) : (takeRescan s).events = s.events := by unfold takeRescan; (repeat' split) <;> simp
@[simp] theorem takeRescan_inputs (s : State) : (takeRescan s).inputs = s.inputs := by unfold takeRescan; (repeat' split) <;> simp
@[simp] theorem takeRescan_posture (s : State) : (takeRescan s).posture = s.posture := by unfold takeRescan; (repeat' split) <;> simp
@[simp] theorem takeRescan_fault (s : State) : (takeRescan s).fault = s.fault := by unfold takeRescan; (repeat' split) <;> simp
@[simp] theorem takeRescan_wakeReported (s : State) : (takeRescan s).wakeReported = s.wakeReported := by unfold takeRescan; (repeat' split) <;> simp
@[simp] theorem takeRescan_area (s : State) : (takeRescan s).area = s.area := by unfold takeRescan; (repeat' split) <;> simp
@[simp] theorem takeRescan_readData (s : State) : (takeRescan s).readData = s.readData := by unfold takeRescan; (repeat' split) <;> simp
@[simp] theorem takeRescan_pending (s : State) : (takeRescan s).pending = s.pending := by unfold takeRescan; (repeat' split) <;> simp

@[simp] theorem endPass_clock (s : State) : (endPass s).clock = s.clock := by unfold endPass; (repeat' split) <;> simp
@[simp] theorem endPass_latch (s : State) : (endPass s).latch = s.latch := by unfold endPass; (repeat' split) <;> simp
@[simp] theorem endPass_regs (s : State) : (endPass s).regs = s.regs := by unfold endPass; (repeat' split) <;> simp
@[simp] theorem endPass_pad (s : State) : (endPass s).pad = s.pad := by unfold endPass; (repeat' split) <;> simp
@[simp] theorem endPass_screen (s : State) : (endPass s).screen = s.screen := by unfold endPass; (repeat' split) <;> simp
@[simp] theorem endPass_suspension (s : State) : (endPass s).suspension = s.suspension := by unfold endPass; (repeat' split) <;> simp
@[simp] theorem endPass_gestures (s : State) : (endPass s).gestures = s.gestures := by unfold endPass; (repeat' split) <;> simp
@[simp] theorem endPass_pen (s : State) : (endPass s).pen = s.pen := by unfold endPass; (repeat' split) <;> simp
@[simp] theorem endPass_penOut (s : State) : (endPass s).penOut = s.penOut := by unfold endPass; (repeat' split) <;> simp
@[simp] theorem endPass_events (s : State) : (endPass s).events = s.events := by unfold endPass; (repeat' split) <;> simp
@[simp] theorem endPass_inputs (s : State) : (endPass s).inputs = s.inputs := by unfold endPass; (repeat' split) <;> simp
@[simp] theorem endPass_posture (s : State) : (endPass s).posture = s.posture := by unfold endPass; (repeat' split) <;> simp
@[simp] theorem endPass_fault (s : State) : (endPass s).fault = s.fault := by unfold endPass; (repeat' split) <;> simp
@[simp] theorem endPass_wakeReported (s : State) : (endPass s).wakeReported = s.wakeReported := by unfold endPass; (repeat' split) <;> simp
@[simp] theorem endPass_area (s : State) : (endPass s).area = s.area := by unfold endPass; (repeat' split) <;> simp
@[simp] theorem endPass_readData (s : State) : (endPass s).readData = s.readData := by unfold endPass; (repeat' split) <;> simp
@[simp] theorem endPass_pending (s : State) : (endPass s).pending = s.pending := by unfold endPass; (repeat' split) <;> simp

@[simp] theorem advance_clock (s : State) : (advance s).clock = s.clock := by unfold advance; (repeat' split) <;> simp
@[simp] theorem advance_latch (s : State) : (advance s).latch = s.latch := by unfold advance; (repeat' split) <;> simp
@[simp] theorem advance_regs (s : State) : (advance s).regs = s.regs := by unfold advance; (repeat' split) <;> simp
@[simp] theorem advance_pad (s : State) : (advance s).pad = s.pad := by unfold advance; (repeat' split) <;> simp
@[simp] theorem advance_screen (s : State) : (advance s).screen = s.screen := by unfold advance; (repeat' split) <;> simp
@[simp] theorem advance_suspension (s : State) : (advance s).suspension = s.suspension := by unfold advance; (repeat' split) <;> simp
@[simp] theorem advance_gestures (s : State) : (advance s).gestures = s.gestures := by unfold advance; (repeat' split) <;> simp
@[simp] theorem advance_pen (s : State) : (advance s).pen = s.pen := by unfold advance; (repeat' split) <;> simp
@[simp] theorem advance_penOut (s : State) : (advance s).penOut = s.penOut := by unfold advance; (repeat' split) <;> simp
@[simp] theorem advance_events (s : State) : (advance s).events = s.events := by unfold advance; (repeat' split) <;> simp
@[simp] theorem advance_inputs (s : State) : (advance s).inputs = s.inputs := by unfold advance; (repeat' split) <;> simp
@[simp] theorem advance_posture (s : State) : (advance s).posture = s.posture := by unfold advance; (repeat' split) <;> simp
@[simp] theorem advance_fault (s : State) : (advance s).fault = s.fault := by unfold advance; (repeat' split) <;> simp
@[simp] theorem advance_wakeReported (s : State) : (advance s).wakeReported = s.wakeReported := by unfold advance; (repeat' split) <;> simp
@[simp] theorem advance_area (s : State) : (advance s).area = s.area := by unfold advance; (repeat' split) <;> simp
@[simp] theorem advance_readData (s : State) : (advance s).readData = s.readData := by unfold advance; (repeat' split) <;> simp
@[simp] theorem advance_pending (s : State) : (advance s).pending = s.pending := by unfold advance; (repeat' split) <;> simp

@[simp] theorem markTaken_clock (i : Nat) (s : State) : (markTaken i s).clock = s.clock := by unfold markTaken; (repeat' split) <;> simp
@[simp] theorem markTaken_latch (i : Nat) (s : State) : (markTaken i s).latch = s.latch := by unfold markTaken; (repeat' split) <;> simp
@[simp] theorem markTaken_regs (i : Nat) (s : State) : (markTaken i s).regs = s.regs := by unfold markTaken; (repeat' split) <;> simp
@[simp] theorem markTaken_pad (i : Nat) (s : State) : (markTaken i s).pad = s.pad := by unfold markTaken; (repeat' split) <;> simp
@[simp] theorem markTaken_screen (i : Nat) (s : State) : (markTaken i s).screen = s.screen := by unfold markTaken; (repeat' split) <;> simp
@[simp] theorem markTaken_suspension (i : Nat) (s : State) : (markTaken i s).suspension = s.suspension := by unfold markTaken; (repeat' split) <;> simp
@[simp] theorem markTaken_gestures (i : Nat) (s : State) : (markTaken i s).gestures = s.gestures := by unfold markTaken; (repeat' split) <;> simp
@[simp] theorem markTaken_pen (i : Nat) (s : State) : (markTaken i s).pen = s.pen := by unfold markTaken; (repeat' split) <;> simp
@[simp] theorem markTaken_penOut (i : Nat) (s : State) : (markTaken i s).penOut = s.penOut := by unfold markTaken; (repeat' split) <;> simp
@[simp] theorem markTaken_events (i : Nat) (s : State) : (markTaken i s).events = s.events := by unfold markTaken; (repeat' split) <;> simp
@[simp] theorem markTaken_inputs (i : Nat) (s : State) : (markTaken i s).inputs = s.inputs := by unfold markTaken; (repeat' split) <;> simp
@[simp] theorem markTaken_posture (i : Nat) (s : State) : (markTaken i s).posture = s.posture := by unfold markTaken; (repeat' split) <;> simp
@[simp] theorem markTaken_fault (i : Nat) (s : State) : (markTaken i s).fault = s.fault := by unfold markTaken; (repeat' split) <;> simp
@[simp] theorem markTaken_wakeReported (i : Nat) (s : State) : (markTaken i s).wakeReported = s.wakeReported := by unfold markTaken; (repeat' split) <;> simp
@[simp] theorem markTaken_area (i : Nat) (s : State) : (markTaken i s).area = s.area := by unfold markTaken; (repeat' split) <;> simp
@[simp] theorem markTaken_readData (i : Nat) (s : State) : (markTaken i s).readData = s.readData := by unfold markTaken; (repeat' split) <;> simp
@[simp] theorem markTaken_pending (i : Nat) (s : State) : (markTaken i s).pending = s.pending := by unfold markTaken; (repeat' split) <;> simp

@[simp] theorem takeNotice_clock (s : State) : (takeNotice s).clock = s.clock := by unfold takeNotice; (repeat' split) <;> simp
@[simp] theorem takeNotice_latch (s : State) : (takeNotice s).latch = s.latch := by unfold takeNotice; (repeat' split) <;> simp
@[simp] theorem takeNotice_regs (s : State) : (takeNotice s).regs = s.regs := by unfold takeNotice; (repeat' split) <;> simp
@[simp] theorem takeNotice_pad (s : State) : (takeNotice s).pad = s.pad := by unfold takeNotice; (repeat' split) <;> simp
@[simp] theorem takeNotice_screen (s : State) : (takeNotice s).screen = s.screen := by unfold takeNotice; (repeat' split) <;> simp
@[simp] theorem takeNotice_suspension (s : State) : (takeNotice s).suspension = s.suspension := by unfold takeNotice; (repeat' split) <;> simp
@[simp] theorem takeNotice_gestures (s : State) : (takeNotice s).gestures = s.gestures := by unfold takeNotice; (repeat' split) <;> simp
@[simp] theorem takeNotice_pen (s : State) : (takeNotice s).pen = s.pen := by unfold takeNotice; (repeat' split) <;> simp
@[simp] theorem takeNotice_penOut (s : State) : (takeNotice s).penOut = s.penOut := by unfold takeNotice; (repeat' split) <;> simp
@[simp] theorem takeNotice_events (s : State) : (takeNotice s).events = s.events := by unfold takeNotice; (repeat' split) <;> simp
@[simp] theorem takeNotice_inputs (s : State) : (takeNotice s).inputs = s.inputs := by unfold takeNotice; (repeat' split) <;> simp
@[simp] theorem takeNotice_posture (s : State) : (takeNotice s).posture = s.posture := by unfold takeNotice; (repeat' split) <;> simp
@[simp] theorem takeNotice_fault (s : State) : (takeNotice s).fault = s.fault := by unfold takeNotice; (repeat' split) <;> simp
@[simp] theorem takeNotice_wakeReported (s : State) : (takeNotice s).wakeReported = s.wakeReported := by unfold takeNotice; (repeat' split) <;> simp
@[simp] theorem takeNotice_area (s : State) : (takeNotice s).area = s.area := by unfold takeNotice; (repeat' split) <;> simp
@[simp] theorem takeNotice_readData (s : State) : (takeNotice s).readData = s.readData := by unfold takeNotice; (repeat' split) <;> simp
@[simp] theorem takeNotice_pending (s : State) : (takeNotice s).pending = s.pending := by unfold takeNotice; (repeat' split) <;> simp

@[simp] theorem ackTaken_clock (f : InFlight) (s : State) : (ackTaken f s).clock = s.clock := by unfold ackTaken; (repeat' split) <;> simp
@[simp] theorem ackTaken_latch (f : InFlight) (s : State) : (ackTaken f s).latch = s.latch := by unfold ackTaken; (repeat' split) <;> simp
@[simp] theorem ackTaken_regs (f : InFlight) (s : State) : (ackTaken f s).regs = s.regs := by unfold ackTaken; (repeat' split) <;> simp
@[simp] theorem ackTaken_pad (f : InFlight) (s : State) : (ackTaken f s).pad = s.pad := by unfold ackTaken; (repeat' split) <;> simp
@[simp] theorem ackTaken_screen (f : InFlight) (s : State) : (ackTaken f s).screen = s.screen := by unfold ackTaken; (repeat' split) <;> simp
@[simp] theorem ackTaken_suspension (f : InFlight) (s : State) : (ackTaken f s).suspension = s.suspension := by unfold ackTaken; (repeat' split) <;> simp
@[simp] theorem ackTaken_gestures (f : InFlight) (s : State) : (ackTaken f s).gestures = s.gestures := by unfold ackTaken; (repeat' split) <;> simp
@[simp] theorem ackTaken_pen (f : InFlight) (s : State) : (ackTaken f s).pen = s.pen := by unfold ackTaken; (repeat' split) <;> simp
@[simp] theorem ackTaken_penOut (f : InFlight) (s : State) : (ackTaken f s).penOut = s.penOut := by unfold ackTaken; (repeat' split) <;> simp
@[simp] theorem ackTaken_events (f : InFlight) (s : State) : (ackTaken f s).events = s.events := by unfold ackTaken; (repeat' split) <;> simp
@[simp] theorem ackTaken_inputs (f : InFlight) (s : State) : (ackTaken f s).inputs = s.inputs := by unfold ackTaken; (repeat' split) <;> simp
@[simp] theorem ackTaken_posture (f : InFlight) (s : State) : (ackTaken f s).posture = s.posture := by unfold ackTaken; (repeat' split) <;> simp
@[simp] theorem ackTaken_command (f : InFlight) (s : State) : (ackTaken f s).command = s.command := by unfold ackTaken; (repeat' split) <;> simp
@[simp] theorem ackTaken_fault (f : InFlight) (s : State) : (ackTaken f s).fault = s.fault := by unfold ackTaken; (repeat' split) <;> simp
@[simp] theorem ackTaken_wakeReported (f : InFlight) (s : State) : (ackTaken f s).wakeReported = s.wakeReported := by unfold ackTaken; (repeat' split) <;> simp
@[simp] theorem ackTaken_readData (f : InFlight) (s : State) : (ackTaken f s).readData = s.readData := by unfold ackTaken; (repeat' split) <;> simp
@[simp] theorem ackTaken_pending (f : InFlight) (s : State) : (ackTaken f s).pending = s.pending := by unfold ackTaken; (repeat' split) <;> simp

@[simp] theorem withInFlight_clock (s : State) (f : InFlight) : (withInFlight s f).clock = s.clock := rfl
@[simp] theorem withInFlight_latch (s : State) (f : InFlight) : (withInFlight s f).latch = s.latch := rfl
@[simp] theorem withInFlight_regs (s : State) (f : InFlight) : (withInFlight s f).regs = s.regs := rfl
@[simp] theorem withInFlight_pad (s : State) (f : InFlight) : (withInFlight s f).pad = s.pad := rfl
@[simp] theorem withInFlight_screen (s : State) (f : InFlight) : (withInFlight s f).screen = s.screen := rfl
@[simp] theorem withInFlight_suspension (s : State) (f : InFlight) : (withInFlight s f).suspension = s.suspension := rfl
@[simp] theorem withInFlight_gestures (s : State) (f : InFlight) : (withInFlight s f).gestures = s.gestures := rfl
@[simp] theorem withInFlight_pen (s : State) (f : InFlight) : (withInFlight s f).pen = s.pen := rfl
@[simp] theorem withInFlight_penOut (s : State) (f : InFlight) : (withInFlight s f).penOut = s.penOut := rfl
@[simp] theorem withInFlight_events (s : State) (f : InFlight) : (withInFlight s f).events = s.events := rfl
@[simp] theorem withInFlight_inputs (s : State) (f : InFlight) : (withInFlight s f).inputs = s.inputs := rfl
@[simp] theorem withInFlight_posture (s : State) (f : InFlight) : (withInFlight s f).posture = s.posture := rfl
@[simp] theorem withInFlight_fault (s : State) (f : InFlight) : (withInFlight s f).fault = s.fault := rfl
@[simp] theorem withInFlight_wakeReported (s : State) (f : InFlight) : (withInFlight s f).wakeReported = s.wakeReported := rfl
@[simp] theorem withInFlight_area (s : State) (f : InFlight) : (withInFlight s f).area = s.area := rfl
@[simp] theorem withInFlight_readData (s : State) (f : InFlight) : (withInFlight s f).readData = s.readData := rfl
@[simp] theorem withInFlight_pending (s : State) (f : InFlight) : (withInFlight s f).pending = s.pending := rfl

@[simp] theorem finish_clock (r d : Nat) (l : List Byte) (f : InFlight) (s : State) : (finish r d l f s).clock = s.clock := by simp [finish]
@[simp] theorem finish_latch (r d : Nat) (l : List Byte) (f : InFlight) (s : State) : (finish r d l f s).latch = s.latch := by simp [finish]
@[simp] theorem finish_regs (r d : Nat) (l : List Byte) (f : InFlight) (s : State) : (finish r d l f s).regs = s.regs := by simp [finish]
@[simp] theorem finish_pad (r d : Nat) (l : List Byte) (f : InFlight) (s : State) : (finish r d l f s).pad = s.pad := by simp [finish]
@[simp] theorem finish_screen (r d : Nat) (l : List Byte) (f : InFlight) (s : State) : (finish r d l f s).screen = s.screen := by simp [finish]
@[simp] theorem finish_suspension (r d : Nat) (l : List Byte) (f : InFlight) (s : State) : (finish r d l f s).suspension = s.suspension := by simp [finish]
@[simp] theorem finish_gestures (r d : Nat) (l : List Byte) (f : InFlight) (s : State) : (finish r d l f s).gestures = s.gestures := by simp [finish]
@[simp] theorem finish_pen (r d : Nat) (l : List Byte) (f : InFlight) (s : State) : (finish r d l f s).pen = s.pen := by simp [finish]
@[simp] theorem finish_penOut (r d : Nat) (l : List Byte) (f : InFlight) (s : State) : (finish r d l f s).penOut = s.penOut := by simp [finish]
@[simp] theorem finish_events (r d : Nat) (l : List Byte) (f : InFlight) (s : State) : (finish r d l f s).events = s.events := by simp [finish]
@[simp] theorem finish_inputs (r d : Nat) (l : List Byte) (f : InFlight) (s : State) : (finish r d l f s).inputs = s.inputs := by simp [finish]
@[simp] theorem finish_posture (r d : Nat) (l : List Byte) (f : InFlight) (s : State) : (finish r d l f s).posture = s.posture := by simp [finish]
@[simp] theorem finish_fault (r d : Nat) (l : List Byte) (f : InFlight) (s : State) : (finish r d l f s).fault = s.fault := by simp [finish]
@[simp] theorem finish_wakeReported (r d : Nat) (l : List Byte) (f : InFlight) (s : State) : (finish r d l f s).wakeReported = s.wakeReported := by simp [finish]
@[simp] theorem finish_readData (r d : Nat) (l : List Byte) (f : InFlight) (s : State) : (finish r d l f s).readData = s.readData := by simp [finish]
@[simp] theorem finish_pending (r d : Nat) (l : List Byte) (f : InFlight) (s : State) : (finish r d l f s).pending = s.pending := by simp [finish]

@[simp] theorem finishOk_clock (f : InFlight) (s : State) : (finishOk f s).clock = s.clock := by simp [finishOk]
@[simp] theorem finishOk_latch (f : InFlight) (s : State) : (finishOk f s).latch = s.latch := by simp [finishOk]
@[simp] theorem finishOk_regs (f : InFlight) (s : State) : (finishOk f s).regs = s.regs := by simp [finishOk]
@[simp] theorem finishOk_pad (f : InFlight) (s : State) : (finishOk f s).pad = s.pad := by simp [finishOk]
@[simp] theorem finishOk_screen (f : InFlight) (s : State) : (finishOk f s).screen = s.screen := by simp [finishOk]
@[simp] theorem finishOk_suspension (f : InFlight) (s : State) : (finishOk f s).suspension = s.suspension := by simp [finishOk]
@[simp] theorem finishOk_gestures (f : InFlight) (s : State) : (finishOk f s).gestures = s.gestures := by simp [finishOk]
@[simp] theorem finishOk_pen (f : InFlight) (s : State) : (finishOk f s).pen = s.pen := by simp [finishOk]
@[simp] theorem finishOk_penOut (f : InFlight) (s : State) : (finishOk f s).penOut = s.penOut := by simp [finishOk]
@[simp] theorem finishOk_events (f : InFlight) (s : State) : (finishOk f s).events = s.events := by simp [finishOk]
@[simp] theorem finishOk_inputs (f : InFlight) (s : State) : (finishOk f s).inputs = s.inputs := by simp [finishOk]
@[simp] theorem finishOk_posture (f : InFlight) (s : State) : (finishOk f s).posture = s.posture := by simp [finishOk]
@[simp] theorem finishOk_fault (f : InFlight) (s : State) : (finishOk f s).fault = s.fault := by simp [finishOk]
@[simp] theorem finishOk_wakeReported (f : InFlight) (s : State) : (finishOk f s).wakeReported = s.wakeReported := by simp [finishOk]
@[simp] theorem finishOk_readData (f : InFlight) (s : State) : (finishOk f s).readData = s.readData := by simp [finishOk]
@[simp] theorem finishOk_pending (f : InFlight) (s : State) : (finishOk f s).pending = s.pending := by simp [finishOk]

@[simp] theorem readOn_clock (f : InFlight) (s : State) : (readOn f s).clock = s.clock := by simp [readOn]
@[simp] theorem readOn_latch (f : InFlight) (s : State) : (readOn f s).latch = s.latch := by simp [readOn]
@[simp] theorem readOn_regs (f : InFlight) (s : State) : (readOn f s).regs = s.regs := by simp [readOn]
@[simp] theorem readOn_pad (f : InFlight) (s : State) : (readOn f s).pad = s.pad := by simp [readOn]
@[simp] theorem readOn_screen (f : InFlight) (s : State) : (readOn f s).screen = s.screen := by simp [readOn]
@[simp] theorem readOn_suspension (f : InFlight) (s : State) : (readOn f s).suspension = s.suspension := by simp [readOn]
@[simp] theorem readOn_gestures (f : InFlight) (s : State) : (readOn f s).gestures = s.gestures := by simp [readOn]
@[simp] theorem readOn_pen (f : InFlight) (s : State) : (readOn f s).pen = s.pen := by simp [readOn]
@[simp] theorem readOn_penOut (f : InFlight) (s : State) : (readOn f s).penOut = s.penOut := by simp [readOn]
@[simp] theorem readOn_events (f : InFlight) (s : State) : (readOn f s).events = s.events := by simp [readOn]
@[simp] theorem readOn_inputs (f : InFlight) (s : State) : (readOn f s).inputs = s.inputs := by simp [readOn]
@[simp] theorem readOn_posture (f : InFlight) (s : State) : (readOn f s).posture = s.posture := by simp [readOn]
@[simp] theorem readOn_fault (f : InFlight) (s : State) : (readOn f s).fault = s.fault := by simp [readOn]
@[simp] theorem readOn_wakeReported (f : InFlight) (s : State) : (readOn f s).wakeReported = s.wakeReported := by simp [readOn]
@[simp] theorem readOn_readData (f : InFlight) (s : State) : (readOn f s).readData = s.readData := by simp [readOn]
@[simp] theorem readOn_pending (f : InFlight) (s : State) : (readOn f s).pending = s.pending := by simp [readOn]

@[simp] theorem releaseCommand_clock (f : InFlight) (s : State) : (releaseCommand f s).clock = s.clock := by unfold releaseCommand; split <;> simp
@[simp] theorem releaseCommand_latch (f : InFlight) (s : State) : (releaseCommand f s).latch = s.latch := by unfold releaseCommand; split <;> simp
@[simp] theorem releaseCommand_pad (f : InFlight) (s : State) : (releaseCommand f s).pad = s.pad := by unfold releaseCommand; split <;> simp
@[simp] theorem releaseCommand_screen (f : InFlight) (s : State) : (releaseCommand f s).screen = s.screen := by unfold releaseCommand; split <;> simp
@[simp] theorem releaseCommand_suspension (f : InFlight) (s : State) : (releaseCommand f s).suspension = s.suspension := by unfold releaseCommand; split <;> simp
@[simp] theorem releaseCommand_gestures (f : InFlight) (s : State) : (releaseCommand f s).gestures = s.gestures := by unfold releaseCommand; split <;> simp
@[simp] theorem releaseCommand_pen (f : InFlight) (s : State) : (releaseCommand f s).pen = s.pen := by unfold releaseCommand; split <;> simp
@[simp] theorem releaseCommand_penOut (f : InFlight) (s : State) : (releaseCommand f s).penOut = s.penOut := by unfold releaseCommand; split <;> simp
@[simp] theorem releaseCommand_events (f : InFlight) (s : State) : (releaseCommand f s).events = s.events := by unfold releaseCommand; split <;> simp
@[simp] theorem releaseCommand_inputs (f : InFlight) (s : State) : (releaseCommand f s).inputs = s.inputs := by unfold releaseCommand; split <;> simp
@[simp] theorem releaseCommand_posture (f : InFlight) (s : State) : (releaseCommand f s).posture = s.posture := by unfold releaseCommand; split <;> simp
@[simp] theorem releaseCommand_fault (f : InFlight) (s : State) : (releaseCommand f s).fault = s.fault := by unfold releaseCommand; split <;> simp
@[simp] theorem releaseCommand_wakeReported (f : InFlight) (s : State) : (releaseCommand f s).wakeReported = s.wakeReported := by unfold releaseCommand; split <;> simp
@[simp] theorem releaseCommand_area (f : InFlight) (s : State) : (releaseCommand f s).area = s.area := by unfold releaseCommand; split <;> simp
@[simp] theorem releaseCommand_readData (f : InFlight) (s : State) : (releaseCommand f s).readData = s.readData := by unfold releaseCommand; split <;> simp
@[simp] theorem releaseCommand_pending (f : InFlight) (s : State) : (releaseCommand f s).pending = s.pending := by unfold releaseCommand; split <;> simp

end Sys2Proof.Machine
end

