-- ==== Sys2Proof/Laws/Commands.lean ====
section
/-! SUPPORT. What run control, register writes and the commands of the command list leave unchanged, field by field. -/

set_option Elab.async false  -- many small theorems: one at a time, so that threads stay few

namespace Sys2Proof.Machine

@[simp] theorem withStaging_clock (g : Option Staging) (s : State) : (withStaging g s).clock = s.clock := rfl
@[simp] theorem withStaging_latch (g : Option Staging) (s : State) : (withStaging g s).latch = s.latch := rfl
@[simp] theorem withStaging_regs (g : Option Staging) (s : State) : (withStaging g s).regs = s.regs := rfl
@[simp] theorem withStaging_pad (g : Option Staging) (s : State) : (withStaging g s).pad = s.pad := rfl
@[simp] theorem withStaging_screen (g : Option Staging) (s : State) : (withStaging g s).screen = s.screen := rfl
@[simp] theorem withStaging_suspension (g : Option Staging) (s : State) : (withStaging g s).suspension = s.suspension := rfl
@[simp] theorem withStaging_gestures (g : Option Staging) (s : State) : (withStaging g s).gestures = s.gestures := rfl
@[simp] theorem withStaging_pen (g : Option Staging) (s : State) : (withStaging g s).pen = s.pen := rfl
@[simp] theorem withStaging_penOut (g : Option Staging) (s : State) : (withStaging g s).penOut = s.penOut := rfl
@[simp] theorem withStaging_events (g : Option Staging) (s : State) : (withStaging g s).events = s.events := rfl
@[simp] theorem withStaging_inputs (g : Option Staging) (s : State) : (withStaging g s).inputs = s.inputs := rfl
@[simp] theorem withStaging_command (g : Option Staging) (s : State) : (withStaging g s).command = s.command := rfl
@[simp] theorem withStaging_fault (g : Option Staging) (s : State) : (withStaging g s).fault = s.fault := rfl
@[simp] theorem withStaging_wakeReported (g : Option Staging) (s : State) : (withStaging g s).wakeReported = s.wakeReported := rfl
@[simp] theorem withStaging_area (g : Option Staging) (s : State) : (withStaging g s).area = s.area := rfl
@[simp] theorem withStaging_readData (g : Option Staging) (s : State) : (withStaging g s).readData = s.readData := rfl
@[simp] theorem withStaging_pending (g : Option Staging) (s : State) : (withStaging g s).pending = s.pending := rfl

@[simp] theorem withZoneStaging_clock (g : Option ZoneStaging) (s : State) : (withZoneStaging g s).clock = s.clock := rfl
@[simp] theorem withZoneStaging_latch (g : Option ZoneStaging) (s : State) : (withZoneStaging g s).latch = s.latch := rfl
@[simp] theorem withZoneStaging_regs (g : Option ZoneStaging) (s : State) : (withZoneStaging g s).regs = s.regs := rfl
@[simp] theorem withZoneStaging_pad (g : Option ZoneStaging) (s : State) : (withZoneStaging g s).pad = s.pad := rfl
@[simp] theorem withZoneStaging_screen (g : Option ZoneStaging) (s : State) : (withZoneStaging g s).screen = s.screen := rfl
@[simp] theorem withZoneStaging_suspension (g : Option ZoneStaging) (s : State) : (withZoneStaging g s).suspension = s.suspension := rfl
@[simp] theorem withZoneStaging_gestures (g : Option ZoneStaging) (s : State) : (withZoneStaging g s).gestures = s.gestures := rfl
@[simp] theorem withZoneStaging_pen (g : Option ZoneStaging) (s : State) : (withZoneStaging g s).pen = s.pen := rfl
@[simp] theorem withZoneStaging_penOut (g : Option ZoneStaging) (s : State) : (withZoneStaging g s).penOut = s.penOut := rfl
@[simp] theorem withZoneStaging_events (g : Option ZoneStaging) (s : State) : (withZoneStaging g s).events = s.events := rfl
@[simp] theorem withZoneStaging_inputs (g : Option ZoneStaging) (s : State) : (withZoneStaging g s).inputs = s.inputs := rfl
@[simp] theorem withZoneStaging_command (g : Option ZoneStaging) (s : State) : (withZoneStaging g s).command = s.command := rfl
@[simp] theorem withZoneStaging_fault (g : Option ZoneStaging) (s : State) : (withZoneStaging g s).fault = s.fault := rfl
@[simp] theorem withZoneStaging_wakeReported (g : Option ZoneStaging) (s : State) : (withZoneStaging g s).wakeReported = s.wakeReported := rfl
@[simp] theorem withZoneStaging_area (g : Option ZoneStaging) (s : State) : (withZoneStaging g s).area = s.area := rfl
@[simp] theorem withZoneStaging_readData (g : Option ZoneStaging) (s : State) : (withZoneStaging g s).readData = s.readData := rfl
@[simp] theorem withZoneStaging_pending (g : Option ZoneStaging) (s : State) : (withZoneStaging g s).pending = s.pending := rfl

@[simp] theorem putZones_clock (sf : Surface) (n : Nat) (l : List (Option Zone)) (s : State) : (putZones sf n l s).clock = s.clock := by simp [putZones]
@[simp] theorem putZones_latch (sf : Surface) (n : Nat) (l : List (Option Zone)) (s : State) : (putZones sf n l s).latch = s.latch := by simp [putZones]
@[simp] theorem putZones_regs (sf : Surface) (n : Nat) (l : List (Option Zone)) (s : State) : (putZones sf n l s).regs = s.regs := by simp [putZones]
@[simp] theorem putZones_suspension (sf : Surface) (n : Nat) (l : List (Option Zone)) (s : State) : (putZones sf n l s).suspension = s.suspension := by simp [putZones]
@[simp] theorem putZones_gestures (sf : Surface) (n : Nat) (l : List (Option Zone)) (s : State) : (putZones sf n l s).gestures = s.gestures := by simp [putZones]
@[simp] theorem putZones_pen (sf : Surface) (n : Nat) (l : List (Option Zone)) (s : State) : (putZones sf n l s).pen = s.pen := by simp [putZones]
@[simp] theorem putZones_penOut (sf : Surface) (n : Nat) (l : List (Option Zone)) (s : State) : (putZones sf n l s).penOut = s.penOut := by simp [putZones]
@[simp] theorem putZones_events (sf : Surface) (n : Nat) (l : List (Option Zone)) (s : State) : (putZones sf n l s).events = s.events := by simp [putZones]
@[simp] theorem putZones_inputs (sf : Surface) (n : Nat) (l : List (Option Zone)) (s : State) : (putZones sf n l s).inputs = s.inputs := by simp [putZones]
@[simp] theorem putZones_posture (sf : Surface) (n : Nat) (l : List (Option Zone)) (s : State) : (putZones sf n l s).posture = s.posture := by simp [putZones]
@[simp] theorem putZones_command (sf : Surface) (n : Nat) (l : List (Option Zone)) (s : State) : (putZones sf n l s).command = s.command := by simp [putZones]
@[simp] theorem putZones_fault (sf : Surface) (n : Nat) (l : List (Option Zone)) (s : State) : (putZones sf n l s).fault = s.fault := by simp [putZones]
@[simp] theorem putZones_wakeReported (sf : Surface) (n : Nat) (l : List (Option Zone)) (s : State) : (putZones sf n l s).wakeReported = s.wakeReported := by simp [putZones]
@[simp] theorem putZones_area (sf : Surface) (n : Nat) (l : List (Option Zone)) (s : State) : (putZones sf n l s).area = s.area := by simp [putZones]
@[simp] theorem putZones_readData (sf : Surface) (n : Nat) (l : List (Option Zone)) (s : State) : (putZones sf n l s).readData = s.readData := by simp [putZones]
@[simp] theorem putZones_pending (sf : Surface) (n : Nat) (l : List (Option Zone)) (s : State) : (putZones sf n l s).pending = s.pending := by simp [putZones]

@[simp] theorem tryStart_clock (s : State) : (tryStart s).clock = s.clock := by unfold tryStart; split <;> rfl
@[simp] theorem tryStart_latch (s : State) : (tryStart s).latch = s.latch := by unfold tryStart; split <;> rfl
@[simp] theorem tryStart_gestures (s : State) : (tryStart s).gestures = s.gestures := by unfold tryStart; split <;> rfl
@[simp] theorem tryStart_pen (s : State) : (tryStart s).pen = s.pen := by unfold tryStart; split <;> rfl
@[simp] theorem tryStart_inputs (s : State) : (tryStart s).inputs = s.inputs := by unfold tryStart; split <;> rfl
@[simp] theorem tryStart_posture (s : State) : (tryStart s).posture = s.posture := by unfold tryStart; split <;> rfl
@[simp] theorem tryStart_fault (s : State) : (tryStart s).fault = s.fault := by unfold tryStart; split <;> rfl
@[simp] theorem tryStart_wakeReported (s : State) : (tryStart s).wakeReported = s.wakeReported := by unfold tryStart; split <;> rfl
@[simp] theorem tryStart_area (s : State) : (tryStart s).area = s.area := by unfold tryStart; split <;> rfl
@[simp] theorem tryStart_readData (s : State) : (tryStart s).readData = s.readData := by unfold tryStart; split <;> rfl
@[simp] theorem tryStart_pending (s : State) : (tryStart s).pending = s.pending := by unfold tryStart; split <;> rfl

@[simp] theorem beginStop_clock (s : State) : (beginStop s).clock = s.clock := rfl
@[simp] theorem beginStop_latch (s : State) : (beginStop s).latch = s.latch := rfl
@[simp] theorem beginStop_suspension (s : State) : (beginStop s).suspension = s.suspension := rfl
@[simp] theorem beginStop_gestures (s : State) : (beginStop s).gestures = s.gestures := rfl
@[simp] theorem beginStop_pen (s : State) : (beginStop s).pen = s.pen := rfl
@[simp] theorem beginStop_penOut (s : State) : (beginStop s).penOut = s.penOut := rfl
@[simp] theorem beginStop_events (s : State) : (beginStop s).events = s.events := rfl
@[simp] theorem beginStop_inputs (s : State) : (beginStop s).inputs = s.inputs := rfl
@[simp] theorem beginStop_posture (s : State) : (beginStop s).posture = s.posture := rfl
@[simp] theorem beginStop_fault (s : State) : (beginStop s).fault = s.fault := rfl
@[simp] theorem beginStop_wakeReported (s : State) : (beginStop s).wakeReported = s.wakeReported := rfl
@[simp] theorem beginStop_area (s : State) : (beginStop s).area = s.area := rfl
@[simp] theorem beginStop_readData (s : State) : (beginStop s).readData = s.readData := rfl
@[simp] theorem beginStop_pending (s : State) : (beginStop s).pending = s.pending := rfl

@[simp] theorem setRun_clock (s : State) : (setRun s).clock = s.clock := by unfold setRun; (repeat' split) <;> simp
@[simp] theorem setRun_latch (s : State) : (setRun s).latch = s.latch := by unfold setRun; (repeat' split) <;> simp
@[simp] theorem setRun_gestures (s : State) : (setRun s).gestures = s.gestures := by unfold setRun; (repeat' split) <;> simp
@[simp] theorem setRun_pen (s : State) : (setRun s).pen = s.pen := by unfold setRun; (repeat' split) <;> simp
@[simp] theorem setRun_inputs (s : State) : (setRun s).inputs = s.inputs := by unfold setRun; (repeat' split) <;> simp
@[simp] theorem setRun_posture (s : State) : (setRun s).posture = s.posture := by unfold setRun; (repeat' split) <;> simp
@[simp] theorem setRun_fault (s : State) : (setRun s).fault = s.fault := by unfold setRun; (repeat' split) <;> simp
@[simp] theorem setRun_wakeReported (s : State) : (setRun s).wakeReported = s.wakeReported := by unfold setRun; (repeat' split) <;> simp
@[simp] theorem setRun_area (s : State) : (setRun s).area = s.area := by unfold setRun; (repeat' split) <;> simp
@[simp] theorem setRun_readData (s : State) : (setRun s).readData = s.readData := by unfold setRun; (repeat' split) <;> simp
@[simp] theorem setRun_pending (s : State) : (setRun s).pending = s.pending := by unfold setRun; (repeat' split) <;> simp

@[simp] theorem clearRun_clock (s : State) : (clearRun s).clock = s.clock := by unfold clearRun; (repeat' split) <;> simp
@[simp] theorem clearRun_latch (s : State) : (clearRun s).latch = s.latch := by unfold clearRun; (repeat' split) <;> simp
@[simp] theorem clearRun_suspension (s : State) : (clearRun s).suspension = s.suspension := by unfold clearRun; (repeat' split) <;> simp
@[simp] theorem clearRun_gestures (s : State) : (clearRun s).gestures = s.gestures := by unfold clearRun; (repeat' split) <;> simp
@[simp] theorem clearRun_pen (s : State) : (clearRun s).pen = s.pen := by unfold clearRun; (repeat' split) <;> simp
@[simp] theorem clearRun_penOut (s : State) : (clearRun s).penOut = s.penOut := by unfold clearRun; (repeat' split) <;> simp
@[simp] theorem clearRun_events (s : State) : (clearRun s).events = s.events := by unfold clearRun; (repeat' split) <;> simp
@[simp] theorem clearRun_inputs (s : State) : (clearRun s).inputs = s.inputs := by unfold clearRun; (repeat' split) <;> simp
@[simp] theorem clearRun_posture (s : State) : (clearRun s).posture = s.posture := by unfold clearRun; (repeat' split) <;> simp
@[simp] theorem clearRun_fault (s : State) : (clearRun s).fault = s.fault := by unfold clearRun; (repeat' split) <;> simp
@[simp] theorem clearRun_wakeReported (s : State) : (clearRun s).wakeReported = s.wakeReported := by unfold clearRun; (repeat' split) <;> simp
@[simp] theorem clearRun_area (s : State) : (clearRun s).area = s.area := by unfold clearRun; (repeat' split) <;> simp
@[simp] theorem clearRun_readData (s : State) : (clearRun s).readData = s.readData := by unfold clearRun; (repeat' split) <;> simp
@[simp] theorem clearRun_pending (s : State) : (clearRun s).pending = s.pending := by unfold clearRun; (repeat' split) <;> simp

@[simp] theorem reopen_clock (s : State) : (reopen s).clock = s.clock := by simp only [reopen]; split <;> simp
@[simp] theorem reopen_latch (s : State) : (reopen s).latch = s.latch := by simp only [reopen]; split <;> simp
@[simp] theorem reopen_pad (s : State) : (reopen s).pad = s.pad := by simp only [reopen]; split <;> simp
@[simp] theorem reopen_screen (s : State) : (reopen s).screen = s.screen := by simp only [reopen]; split <;> simp
@[simp] theorem reopen_suspension (s : State) : (reopen s).suspension = s.suspension := by simp only [reopen]; split <;> simp
@[simp] theorem reopen_gestures (s : State) : (reopen s).gestures = s.gestures := by simp only [reopen]; split <;> simp
@[simp] theorem reopen_pen (s : State) : (reopen s).pen = s.pen := by simp only [reopen]; split <;> simp
@[simp] theorem reopen_penOut (s : State) : (reopen s).penOut = s.penOut := by simp only [reopen]; split <;> simp
@[simp] theorem reopen_events (s : State) : (reopen s).events = s.events := by simp only [reopen]; split <;> simp
@[simp] theorem reopen_inputs (s : State) : (reopen s).inputs = s.inputs := by simp only [reopen]; split <;> simp
@[simp] theorem reopen_posture (s : State) : (reopen s).posture = s.posture := by simp only [reopen]; split <;> simp
@[simp] theorem reopen_wakeReported (s : State) : (reopen s).wakeReported = s.wakeReported := by simp only [reopen]; split <;> simp
@[simp] theorem reopen_area (s : State) : (reopen s).area = s.area := by simp only [reopen]; split <;> simp
@[simp] theorem reopen_readData (s : State) : (reopen s).readData = s.readData := by simp only [reopen]; split <;> simp
@[simp] theorem reopen_pending (s : State) : (reopen s).pending = s.pending := by simp only [reopen]; split <;> simp

@[simp] theorem clearCauses_clock (m : BitVec 7) (s : State) : (clearCauses m s).clock = s.clock := by simp only [clearCauses]; split <;> simp
@[simp] theorem clearCauses_latch (m : BitVec 7) (s : State) : (clearCauses m s).latch = s.latch := by simp only [clearCauses]; split <;> simp
@[simp] theorem clearCauses_pad (m : BitVec 7) (s : State) : (clearCauses m s).pad = s.pad := by simp only [clearCauses]; split <;> simp
@[simp] theorem clearCauses_screen (m : BitVec 7) (s : State) : (clearCauses m s).screen = s.screen := by simp only [clearCauses]; split <;> simp
@[simp] theorem clearCauses_suspension (m : BitVec 7) (s : State) : (clearCauses m s).suspension = s.suspension := by simp only [clearCauses]; split <;> simp
@[simp] theorem clearCauses_gestures (m : BitVec 7) (s : State) : (clearCauses m s).gestures = s.gestures := by simp only [clearCauses]; split <;> simp
@[simp] theorem clearCauses_pen (m : BitVec 7) (s : State) : (clearCauses m s).pen = s.pen := by simp only [clearCauses]; split <;> simp
@[simp] theorem clearCauses_penOut (m : BitVec 7) (s : State) : (clearCauses m s).penOut = s.penOut := by simp only [clearCauses]; split <;> simp
@[simp] theorem clearCauses_events (m : BitVec 7) (s : State) : (clearCauses m s).events = s.events := by simp only [clearCauses]; split <;> simp
@[simp] theorem clearCauses_inputs (m : BitVec 7) (s : State) : (clearCauses m s).inputs = s.inputs := by simp only [clearCauses]; split <;> simp
@[simp] theorem clearCauses_posture (m : BitVec 7) (s : State) : (clearCauses m s).posture = s.posture := by simp only [clearCauses]; split <;> simp
@[simp] theorem clearCauses_wakeReported (m : BitVec 7) (s : State) : (clearCauses m s).wakeReported = s.wakeReported := by simp only [clearCauses]; split <;> simp
@[simp] theorem clearCauses_area (m : BitVec 7) (s : State) : (clearCauses m s).area = s.area := by simp only [clearCauses]; split <;> simp
@[simp] theorem clearCauses_readData (m : BitVec 7) (s : State) : (clearCauses m s).readData = s.readData := by simp only [clearCauses]; split <;> simp
@[simp] theorem clearCauses_pending (m : BitVec 7) (s : State) : (clearCauses m s).pending = s.pending := by simp only [clearCauses]; split <;> simp

@[simp] theorem takeCommand_clock (r : BitVec 512) (p : Pass) (s : State) : (takeCommand r p s).clock = s.clock := by simp only [takeCommand]; (repeat' split) <;> simp
@[simp] theorem takeCommand_latch (r : BitVec 512) (p : Pass) (s : State) : (takeCommand r p s).latch = s.latch := by simp only [takeCommand]; (repeat' split) <;> simp
@[simp] theorem takeCommand_regs (r : BitVec 512) (p : Pass) (s : State) : (takeCommand r p s).regs = s.regs := by simp only [takeCommand]; (repeat' split) <;> simp
@[simp] theorem takeCommand_pad (r : BitVec 512) (p : Pass) (s : State) : (takeCommand r p s).pad = s.pad := by simp only [takeCommand]; (repeat' split) <;> simp
@[simp] theorem takeCommand_screen (r : BitVec 512) (p : Pass) (s : State) : (takeCommand r p s).screen = s.screen := by simp only [takeCommand]; (repeat' split) <;> simp
@[simp] theorem takeCommand_suspension (r : BitVec 512) (p : Pass) (s : State) : (takeCommand r p s).suspension = s.suspension := by simp only [takeCommand]; (repeat' split) <;> simp
@[simp] theorem takeCommand_gestures (r : BitVec 512) (p : Pass) (s : State) : (takeCommand r p s).gestures = s.gestures := by simp only [takeCommand]; (repeat' split) <;> simp
@[simp] theorem takeCommand_pen (r : BitVec 512) (p : Pass) (s : State) : (takeCommand r p s).pen = s.pen := by simp only [takeCommand]; (repeat' split) <;> simp
@[simp] theorem takeCommand_penOut (r : BitVec 512) (p : Pass) (s : State) : (takeCommand r p s).penOut = s.penOut := by simp only [takeCommand]; (repeat' split) <;> simp
@[simp] theorem takeCommand_events (r : BitVec 512) (p : Pass) (s : State) : (takeCommand r p s).events = s.events := by simp only [takeCommand]; (repeat' split) <;> simp
@[simp] theorem takeCommand_inputs (r : BitVec 512) (p : Pass) (s : State) : (takeCommand r p s).inputs = s.inputs := by simp only [takeCommand]; (repeat' split) <;> simp
@[simp] theorem takeCommand_posture (r : BitVec 512) (p : Pass) (s : State) : (takeCommand r p s).posture = s.posture := by simp only [takeCommand]; (repeat' split) <;> simp
@[simp] theorem takeCommand_fault (r : BitVec 512) (p : Pass) (s : State) : (takeCommand r p s).fault = s.fault := by simp only [takeCommand]; (repeat' split) <;> simp
@[simp] theorem takeCommand_wakeReported (r : BitVec 512) (p : Pass) (s : State) : (takeCommand r p s).wakeReported = s.wakeReported := by simp only [takeCommand]; (repeat' split) <;> simp
@[simp] theorem takeCommand_area (r : BitVec 512) (p : Pass) (s : State) : (takeCommand r p s).area = s.area := by simp only [takeCommand]; (repeat' split) <;> simp
@[simp] theorem takeCommand_readData (r : BitVec 512) (p : Pass) (s : State) : (takeCommand r p s).readData = s.readData := by simp only [takeCommand]; (repeat' split) <;> simp
@[simp] theorem takeCommand_pending (r : BitVec 512) (p : Pass) (s : State) : (takeCommand r p s).pending = s.pending := by simp only [takeCommand]; (repeat' split) <;> simp

@[simp] theorem examine_clock (r : BitVec 512) (s : State) : (examine r s).clock = s.clock := by unfold examine; (repeat' split) <;> simp
@[simp] theorem examine_latch (r : BitVec 512) (s : State) : (examine r s).latch = s.latch := by unfold examine; (repeat' split) <;> simp
@[simp] theorem examine_regs (r : BitVec 512) (s : State) : (examine r s).regs = s.regs := by unfold examine; (repeat' split) <;> simp
@[simp] theorem examine_pad (r : BitVec 512) (s : State) : (examine r s).pad = s.pad := by unfold examine; (repeat' split) <;> simp
@[simp] theorem examine_screen (r : BitVec 512) (s : State) : (examine r s).screen = s.screen := by unfold examine; (repeat' split) <;> simp
@[simp] theorem examine_suspension (r : BitVec 512) (s : State) : (examine r s).suspension = s.suspension := by unfold examine; (repeat' split) <;> simp
@[simp] theorem examine_gestures (r : BitVec 512) (s : State) : (examine r s).gestures = s.gestures := by unfold examine; (repeat' split) <;> simp
@[simp] theorem examine_pen (r : BitVec 512) (s : State) : (examine r s).pen = s.pen := by unfold examine; (repeat' split) <;> simp
@[simp] theorem examine_penOut (r : BitVec 512) (s : State) : (examine r s).penOut = s.penOut := by unfold examine; (repeat' split) <;> simp
@[simp] theorem examine_events (r : BitVec 512) (s : State) : (examine r s).events = s.events := by unfold examine; (repeat' split) <;> simp
@[simp] theorem examine_inputs (r : BitVec 512) (s : State) : (examine r s).inputs = s.inputs := by unfold examine; (repeat' split) <;> simp
@[simp] theorem examine_posture (r : BitVec 512) (s : State) : (examine r s).posture = s.posture := by unfold examine; (repeat' split) <;> simp
@[simp] theorem examine_fault (r : BitVec 512) (s : State) : (examine r s).fault = s.fault := by unfold examine; (repeat' split) <;> simp
@[simp] theorem examine_wakeReported (r : BitVec 512) (s : State) : (examine r s).wakeReported = s.wakeReported := by unfold examine; (repeat' split) <;> simp
@[simp] theorem examine_area (r : BitVec 512) (s : State) : (examine r s).area = s.area := by unfold examine; (repeat' split) <;> simp
@[simp] theorem examine_readData (r : BitVec 512) (s : State) : (examine r s).readData = s.readData := by unfold examine; (repeat' split) <;> simp
@[simp] theorem examine_pending (r : BitVec 512) (s : State) : (examine r s).pending = s.pending := by unfold examine; (repeat' split) <;> simp

@[simp] theorem loadBank_clock (d : List (BitVec 64)) (f : InFlight) (s : State) : (loadBank d f s).clock = s.clock := by simp only [loadBank, readHead, applyEntries, concludeBank]; (repeat' split) <;> simp
@[simp] theorem loadBank_latch (d : List (BitVec 64)) (f : InFlight) (s : State) : (loadBank d f s).latch = s.latch := by simp only [loadBank, readHead, applyEntries, concludeBank]; (repeat' split) <;> simp
@[simp] theorem loadBank_regs (d : List (BitVec 64)) (f : InFlight) (s : State) : (loadBank d f s).regs = s.regs := by simp only [loadBank, readHead, applyEntries, concludeBank]; (repeat' split) <;> simp
@[simp] theorem loadBank_pad (d : List (BitVec 64)) (f : InFlight) (s : State) : (loadBank d f s).pad = s.pad := by simp only [loadBank, readHead, applyEntries, concludeBank]; (repeat' split) <;> simp
@[simp] theorem loadBank_screen (d : List (BitVec 64)) (f : InFlight) (s : State) : (loadBank d f s).screen = s.screen := by simp only [loadBank, readHead, applyEntries, concludeBank]; (repeat' split) <;> simp
@[simp] theorem loadBank_suspension (d : List (BitVec 64)) (f : InFlight) (s : State) : (loadBank d f s).suspension = s.suspension := by simp only [loadBank, readHead, applyEntries, concludeBank]; (repeat' split) <;> simp
@[simp] theorem loadBank_gestures (d : List (BitVec 64)) (f : InFlight) (s : State) : (loadBank d f s).gestures = s.gestures := by simp only [loadBank, readHead, applyEntries, concludeBank]; (repeat' split) <;> simp
@[simp] theorem loadBank_pen (d : List (BitVec 64)) (f : InFlight) (s : State) : (loadBank d f s).pen = s.pen := by simp only [loadBank, readHead, applyEntries, concludeBank]; (repeat' split) <;> simp
@[simp] theorem loadBank_penOut (d : List (BitVec 64)) (f : InFlight) (s : State) : (loadBank d f s).penOut = s.penOut := by simp only [loadBank, readHead, applyEntries, concludeBank]; (repeat' split) <;> simp
@[simp] theorem loadBank_events (d : List (BitVec 64)) (f : InFlight) (s : State) : (loadBank d f s).events = s.events := by simp only [loadBank, readHead, applyEntries, concludeBank]; (repeat' split) <;> simp
@[simp] theorem loadBank_inputs (d : List (BitVec 64)) (f : InFlight) (s : State) : (loadBank d f s).inputs = s.inputs := by simp only [loadBank, readHead, applyEntries, concludeBank]; (repeat' split) <;> simp
@[simp] theorem loadBank_fault (d : List (BitVec 64)) (f : InFlight) (s : State) : (loadBank d f s).fault = s.fault := by simp only [loadBank, readHead, applyEntries, concludeBank]; (repeat' split) <;> simp
@[simp] theorem loadBank_wakeReported (d : List (BitVec 64)) (f : InFlight) (s : State) : (loadBank d f s).wakeReported = s.wakeReported := by simp only [loadBank, readHead, applyEntries, concludeBank]; (repeat' split) <;> simp
@[simp] theorem loadBank_readData (d : List (BitVec 64)) (f : InFlight) (s : State) : (loadBank d f s).readData = s.readData := by simp only [loadBank, readHead, applyEntries, concludeBank]; (repeat' split) <;> simp
@[simp] theorem loadBank_pending (d : List (BitVec 64)) (f : InFlight) (s : State) : (loadBank d f s).pending = s.pending := by simp only [loadBank, readHead, applyEntries, concludeBank]; (repeat' split) <;> simp

@[simp] theorem loadZones_clock (d : List (BitVec 128)) (f : InFlight) (s : State) : (loadZones d f s).clock = s.clock := by simp only [loadZones, applyZones, concludeZones]; (repeat' split) <;> simp
@[simp] theorem loadZones_latch (d : List (BitVec 128)) (f : InFlight) (s : State) : (loadZones d f s).latch = s.latch := by simp only [loadZones, applyZones, concludeZones]; (repeat' split) <;> simp
@[simp] theorem loadZones_regs (d : List (BitVec 128)) (f : InFlight) (s : State) : (loadZones d f s).regs = s.regs := by simp only [loadZones, applyZones, concludeZones]; (repeat' split) <;> simp
@[simp] theorem loadZones_suspension (d : List (BitVec 128)) (f : InFlight) (s : State) : (loadZones d f s).suspension = s.suspension := by simp only [loadZones, applyZones, concludeZones]; (repeat' split) <;> simp
@[simp] theorem loadZones_gestures (d : List (BitVec 128)) (f : InFlight) (s : State) : (loadZones d f s).gestures = s.gestures := by simp only [loadZones, applyZones, concludeZones]; (repeat' split) <;> simp
@[simp] theorem loadZones_pen (d : List (BitVec 128)) (f : InFlight) (s : State) : (loadZones d f s).pen = s.pen := by simp only [loadZones, applyZones, concludeZones]; (repeat' split) <;> simp
@[simp] theorem loadZones_penOut (d : List (BitVec 128)) (f : InFlight) (s : State) : (loadZones d f s).penOut = s.penOut := by simp only [loadZones, applyZones, concludeZones]; (repeat' split) <;> simp
@[simp] theorem loadZones_events (d : List (BitVec 128)) (f : InFlight) (s : State) : (loadZones d f s).events = s.events := by simp only [loadZones, applyZones, concludeZones]; (repeat' split) <;> simp
@[simp] theorem loadZones_inputs (d : List (BitVec 128)) (f : InFlight) (s : State) : (loadZones d f s).inputs = s.inputs := by simp only [loadZones, applyZones, concludeZones]; (repeat' split) <;> simp
@[simp] theorem loadZones_fault (d : List (BitVec 128)) (f : InFlight) (s : State) : (loadZones d f s).fault = s.fault := by simp only [loadZones, applyZones, concludeZones]; (repeat' split) <;> simp
@[simp] theorem loadZones_wakeReported (d : List (BitVec 128)) (f : InFlight) (s : State) : (loadZones d f s).wakeReported = s.wakeReported := by simp only [loadZones, applyZones, concludeZones]; (repeat' split) <;> simp
@[simp] theorem loadZones_readData (d : List (BitVec 128)) (f : InFlight) (s : State) : (loadZones d f s).readData = s.readData := by simp only [loadZones, applyZones, concludeZones]; (repeat' split) <;> simp
@[simp] theorem loadZones_pending (d : List (BitVec 128)) (f : InFlight) (s : State) : (loadZones d f s).pending = s.pending := by simp only [loadZones, applyZones, concludeZones]; (repeat' split) <;> simp

@[simp] theorem complete_clock (s : State) : (complete s).clock = s.clock := by unfold complete; (repeat' split) <;> simp
@[simp] theorem complete_latch (s : State) : (complete s).latch = s.latch := by unfold complete; (repeat' split) <;> simp
@[simp] theorem complete_pad (s : State) : (complete s).pad = s.pad := by unfold complete; (repeat' split) <;> simp
@[simp] theorem complete_screen (s : State) : (complete s).screen = s.screen := by unfold complete; (repeat' split) <;> simp
@[simp] theorem complete_suspension (s : State) : (complete s).suspension = s.suspension := by unfold complete; (repeat' split) <;> simp
@[simp] theorem complete_gestures (s : State) : (complete s).gestures = s.gestures := by unfold complete; (repeat' split) <;> simp
@[simp] theorem complete_pen (s : State) : (complete s).pen = s.pen := by unfold complete; (repeat' split) <;> simp
@[simp] theorem complete_penOut (s : State) : (complete s).penOut = s.penOut := by unfold complete; (repeat' split) <;> simp
@[simp] theorem complete_events (s : State) : (complete s).events = s.events := by unfold complete; (repeat' split) <;> simp
@[simp] theorem complete_inputs (s : State) : (complete s).inputs = s.inputs := by unfold complete; (repeat' split) <;> simp
@[simp] theorem complete_posture (s : State) : (complete s).posture = s.posture := by unfold complete; (repeat' split) <;> simp
@[simp] theorem complete_fault (s : State) : (complete s).fault = s.fault := by unfold complete; (repeat' split) <;> simp
@[simp] theorem complete_wakeReported (s : State) : (complete s).wakeReported = s.wakeReported := by unfold complete; (repeat' split) <;> simp
@[simp] theorem complete_readData (s : State) : (complete s).readData = s.readData := by unfold complete; (repeat' split) <;> simp
@[simp] theorem complete_pending (s : State) : (complete s).pending = s.pending := by unfold complete; (repeat' split) <;> simp

end Sys2Proof.Machine
end

