-- ==== Sys2Proof/Laws/Contacts.lean ====
section
/-! SUPPORT. What tracking and classification do to the contacts of a table: slots, states and the
order of confirmation. -/

set_option Elab.async false  -- many small theorems: one at a time, so that threads stay few

namespace Sys2Proof.Machine

/-! ### Slots (R43, R48, R51) -/

/-- Creation order is a reordering of the contacts. -/
theorem byCreation_perm (c : BitVec 32) (l : List Contact) : (byCreation c l).Perm l := List.perm_insertionSort _ _

/-- A contact is in the table in creation order exactly when it is in the table. -/
theorem mem_byCreation {c : BitVec 32} {l : List Contact} {k : Contact} : k ∈ byCreation c l ↔ k ∈ l :=
  (byCreation_perm c l).mem_iff

@[simp] theorem takeBlob_slot (p : SurfaceParams) (g : Bool) (b : Blob) (k : Contact) : (takeBlob p g b k).slot = k.slot := rfl
@[simp] theorem missBlob_slot (n : Nat) (k : Contact) : (missBlob n k).slot = k.slot := by
  unfold missBlob; split <;> rfl

/-- Matching keeps every contact in its slot, in order. -/
theorem matchContacts_slots (p : SurfaceParams) (g : Bool) (ks : List Contact) (bs : List Blob) :
    (matchContacts p g ks bs).1.map (·.slot) = ks.map (·.slot) := by
  induction ks generalizing bs with
  | nil => rfl
  | cons k ks ih =>
    simp only [matchContacts]
    split
    · simp [ih]
    · split <;> simp [ih]

/-- The free slot lies within the capacity and is used by no contact. -/
theorem freeSlot_free {n : Nat} {table : List Contact} {i : Nat} (h : freeSlot n table = some i) :
    i < n ∧ ∀ k ∈ table, k.slot ≠ i := by
  unfold freeSlot at h
  have h1 := List.mem_of_find?_eq_some h
  have h2 := List.find?_some h
  refine ⟨List.mem_range.1 h1, ?_⟩
  simpa using h2

/-- Classification keeps a contact's slot and state. -/
theorem classifyContact_slot_state (sf : Surface) (b : Bank) (v : FrameView) (o : List Contact) (k : Contact) :
    (classifyContact sf b v o k).1.slot = k.slot ∧ (classifyContact sf b v o k).1.state = k.state := by
  unfold classifyContact
  split <;> simp only [afterTests, decideContact, heldFinger] <;> (repeat' split) <;> first | exact ⟨rfl, rfl⟩ | simp

/-- The classification stage keeps every slot, in order. -/
theorem classifyFrom_slots (sf : Surface) (b : Bank) (v : FrameView) (done ks : List Contact) :
    (classifyFrom sf b v done ks).map (fun q => q.1.slot) = ks.map (·.slot) := by
  induction ks generalizing done with
  | nil => rfl
  | cons k ks ih => simp [classifyFrom, ih, (classifyContact_slot_state sf b v (done ++ ks) k).1]

/-- The classification stage keeps the slots of the table it is given. -/
theorem classifyTable_slots (sf : Surface) (b : Bank) (v : FrameView) (l : List Contact) :
    (classifyTable sf b v l).table.map (·.slot) = l.map (·.slot) := by
  have h : ∀ k, (suspendContact v k).1.slot = k.slot := by
    intro k; unfold suspendContact; split <;> rfl
  have h2 := classifyFrom_slots sf b v [] ((l.map (suspendContact v)).map (·.1))
  simp only [classifyTable, List.map_map, Function.comp_def] at h2 ⊢
  simp only [h2, h]

/-! ### Confirmation (R68, R69) -/

/-- What holds of a contact of a table: confirmed before FINGER or retracted, and final after a
retraction. -/
def SoundContact (k : Contact) : Prop := ConfirmedFirst k ∧ RetractedIsFinal k

/-- The result of `firstMet` belongs to a test that was met. -/
theorem firstMet_mem {α : Type} {l : List (Bool × α)} {r : α} (h : firstMet l = some r) : (true, r) ∈ l := by
  simp only [firstMet, Option.map_eq_some_iff] at h
  obtain ⟨q, hq, rfl⟩ := h
  have h1 := List.mem_of_find?_eq_some hq
  have h2 := List.find?_some hq
  obtain ⟨a, b⟩ := q
  simp only at h2
  subst h2
  exact h1

/-- No creation test gives FINGER. -/
theorem creationTests_ne {sf : Surface} {b : Bank} {v : FrameView} {o : List Contact} {k : Contact} {r : Class × Reason}
    (h : creationTests sf b v o k = some r) : r.1 ≠ .finger := by
  have := firstMet_mem h
  simp only [List.mem_cons, Prod.mk.injEq, List.not_mem_nil, or_false] at this
  rcases this with h | h | h | h | h | h <;> simp [h.2]

/-- No repeated test gives FINGER. -/
theorem repeatedTests_ne {sf : Surface} {b : Bank} {v : FrameView} {o : List Contact} {k : Contact} {r : Class × Reason}
    (h : repeatedTests sf b v o k = some r) : r.1 ≠ .finger := by
  have := firstMet_mem h
  simp only [List.mem_cons, Prod.mk.injEq, List.not_mem_nil, or_false] at this
  rcases this with h | h | h | h | h <;> simp [h.2]

/-- No test of the ending decision gives FINGER. -/
theorem endingTests_ne {sf : Surface} {b : Bank} {v : FrameView} {o : List Contact} {k : Contact} {r : Class × Reason}
    (h : endingTests sf b v o k = some r) : r.1 ≠ .finger := by
  have := firstMet_mem h
  simp only [List.mem_cons, Prod.mk.injEq, List.not_mem_nil, or_false] at this
  rcases this with h | h | h | h <;> simp [h.2]

/-- An UNDECIDED contact stays sound when it is decided against. -/
theorem SoundContact.reject {k : Contact} (h : SoundContact k) (hu : k.cls = .undecided) {r : Class × Reason}
    (hr : r.1 ≠ .finger) : SoundContact (rejectContact r k) := by
  have hm : k.retractedMark = false := by
    cases hb : k.retractedMark with
    | false => rfl
    | true => rcases h.2 hb with h | h <;> simp [hu] at h
  refine ⟨fun h' => ?_, fun h' => ?_⟩
  · rcases h' with h' | h'
    · exact absurd h' hr
    · simp [rejectContact, hm] at h'
  · simp [rejectContact, hm] at h'

/-- An UNDECIDED contact stays sound when it is confirmed. -/
theorem SoundContact.confirm {k : Contact} (h : SoundContact k) (hu : k.cls = .undecided) :
    SoundContact (confirmContact k) := by
  have hm : k.retractedMark = false := by
    cases hb : k.retractedMark with
    | false => rfl
    | true => rcases h.2 hb with h | h <;> simp [hu] at h
  exact ⟨fun _ => rfl, fun h' => by simp [confirmContact, hm] at h'⟩

/-- The classification stage keeps every contact sound. -/
theorem classifyContact_sound (sf : Surface) (b : Bank) (v : FrameView) (o : List Contact) (k : Contact)
    (h : SoundContact k) : SoundContact (classifyContact sf b v o k).1 := by
  have adv : ∀ k, SoundContact k → SoundContact (advanceConfirm k) := by
    intro k h
    refine ⟨fun h' => ?_, h.2⟩
    have := h.1 h'
    simpa [advanceConfirm] using this
  have dec : ∀ k p, SoundContact k → k.cls = .undecided → SoundContact (decideContact p k).1 := by
    intro k p h hu
    unfold decideContact
    split
    · split
      · exact h.reject hu (by decide)
      · exact h.confirm hu
    · exact h
  unfold classifyContact
  split
  · rename_i hc hs
    simp only [afterTests]; split
    · rename_i r hr; exact h.reject hc (creationTests_ne hr)
    · exact dec k _ h hc
  · rename_i hc hs
    simp only [afterTests]; split
    · rename_i r hr; exact h.reject hc (repeatedTests_ne hr)
    · exact dec k _ h hc
  · exact h
  · rename_i hc hs
    simp only [afterTests]; split
    · rename_i r hr; exact h.reject hc (endingTests_ne hr)
    · exact h.confirm hc
  · rename_i hc hs
    simp only [heldFinger]
    split
    · split
      · exact ⟨fun _ => (adv k h).1 (.inl hc), fun _ => .inl rfl⟩
      · exact adv k h
    · exact adv k h
  · exact adv k h
  all_goals exact h

end Sys2Proof.Machine
end

