-- ==== Sys2Proof/Laws/Frames.lean ====
section
/-! SUPPORT. What the steps of a frame leave unchanged, field by field. -/

set_option Elab.async false  -- many small theorems: one at a time, so that threads stay few

namespace Sys2Proof.Machine

@[simp] theorem updateSurface_clock (s : State) (sf : Surface) (g : SurfaceUnit → SurfaceUnit) : (updateSurface s sf g).clock = s.clock := by simp [updateSurface]
@[simp] theorem updateSurface_latch (s : State) (sf : Surface) (g : SurfaceUnit → SurfaceUnit) : (updateSurface s sf g).latch = s.latch := by simp [updateSurface]
@[simp] theorem updateSurface_regs (s : State) (sf : Surface) (g : SurfaceUnit → SurfaceUnit) : (updateSurface s sf g).regs = s.regs := by simp [updateSurface]
@[simp] theorem updateSurface_suspension (s : State) (sf : Surface) (g : SurfaceUnit → SurfaceUnit) : (updateSurface s sf g).suspension = s.suspension := by simp [updateSurface]
@[simp] theorem updateSurface_gestures (s : State) (sf : Surface) (g : SurfaceUnit → SurfaceUnit) : (updateSurface s sf g).gestures = s.gestures := by simp [updateSurface]
@[simp] theorem updateSurface_pen (s : State) (sf : Surface) (g : SurfaceUnit → SurfaceUnit) : (updateSurface s sf g).pen = s.pen := by simp [updateSurface]
@[simp] theorem updateSurface_penOut (s : State) (sf : Surface) (g : SurfaceUnit → SurfaceUnit) : (updateSurface s sf g).penOut = s.penOut := by simp [updateSurface]
@[simp] theorem updateSurface_events (s : State) (sf : Surface) (g : SurfaceUnit → SurfaceUnit) : (updateSurface s sf g).events = s.events := by simp [updateSurface]
@[simp] theorem updateSurface_inputs (s : State) (sf : Surface) (g : SurfaceUnit → SurfaceUnit) : (updateSurface s sf g).inputs = s.inputs := by simp [updateSurface]
@[simp] theorem updateSurface_posture (s : State) (sf : Surface) (g : SurfaceUnit → SurfaceUnit) : (updateSurface s sf g).posture = s.posture := by simp [updateSurface]
@[simp] theorem updateSurface_command (s : State) (sf : Surface) (g : SurfaceUnit → SurfaceUnit) : (updateSurface s sf g).command = s.command := by simp [updateSurface]
@[simp] theorem updateSurface_fault (s : State) (sf : Surface) (g : SurfaceUnit → SurfaceUnit) : (updateSurface s sf g).fault = s.fault := by simp [updateSurface]
@[simp] theorem updateSurface_wakeReported (s : State) (sf : Surface) (g : SurfaceUnit → SurfaceUnit) : (updateSurface s sf g).wakeReported = s.wakeReported := by simp [updateSurface]
@[simp] theorem updateSurface_area (s : State) (sf : Surface) (g : SurfaceUnit → SurfaceUnit) : (updateSurface s sf g).area = s.area := by simp [updateSurface]
@[simp] theorem updateSurface_readData (s : State) (sf : Surface) (g : SurfaceUnit → SurfaceUnit) : (updateSurface s sf g).readData = s.readData := by simp [updateSurface]
@[simp] theorem updateSurface_pending (s : State) (sf : Surface) (g : SurfaceUnit → SurfaceUnit) : (updateSurface s sf g).pending = s.pending := by simp [updateSurface]

@[simp] theorem endPadGestures_clock (s : State) (sf : Surface) (o : EndOutcome) (t : Time) : (endPadGestures s sf o t).clock = s.clock := by cases sf <;> rfl
@[simp] theorem endPadGestures_latch (s : State) (sf : Surface) (o : EndOutcome) (t : Time) : (endPadGestures s sf o t).latch = s.latch := by cases sf <;> rfl
@[simp] theorem endPadGestures_regs (s : State) (sf : Surface) (o : EndOutcome) (t : Time) : (endPadGestures s sf o t).regs = s.regs := by cases sf <;> rfl
@[simp] theorem endPadGestures_pad (s : State) (sf : Surface) (o : EndOutcome) (t : Time) : (endPadGestures s sf o t).pad = s.pad := by cases sf <;> rfl
@[simp] theorem endPadGestures_screen (s : State) (sf : Surface) (o : EndOutcome) (t : Time) : (endPadGestures s sf o t).screen = s.screen := by cases sf <;> rfl
@[simp] theorem endPadGestures_suspension (s : State) (sf : Surface) (o : EndOutcome) (t : Time) : (endPadGestures s sf o t).suspension = s.suspension := by cases sf <;> rfl
@[simp] theorem endPadGestures_pen (s : State) (sf : Surface) (o : EndOutcome) (t : Time) : (endPadGestures s sf o t).pen = s.pen := by cases sf <;> rfl
@[simp] theorem endPadGestures_penOut (s : State) (sf : Surface) (o : EndOutcome) (t : Time) : (endPadGestures s sf o t).penOut = s.penOut := by cases sf <;> rfl
@[simp] theorem endPadGestures_inputs (s : State) (sf : Surface) (o : EndOutcome) (t : Time) : (endPadGestures s sf o t).inputs = s.inputs := by cases sf <;> rfl
@[simp] theorem endPadGestures_posture (s : State) (sf : Surface) (o : EndOutcome) (t : Time) : (endPadGestures s sf o t).posture = s.posture := by cases sf <;> rfl
@[simp] theorem endPadGestures_command (s : State) (sf : Surface) (o : EndOutcome) (t : Time) : (endPadGestures s sf o t).command = s.command := by cases sf <;> rfl
@[simp] theorem endPadGestures_fault (s : State) (sf : Surface) (o : EndOutcome) (t : Time) : (endPadGestures s sf o t).fault = s.fault := by cases sf <;> rfl
@[simp] theorem endPadGestures_wakeReported (s : State) (sf : Surface) (o : EndOutcome) (t : Time) : (endPadGestures s sf o t).wakeReported = s.wakeReported := by cases sf <;> rfl
@[simp] theorem endPadGestures_area (s : State) (sf : Surface) (o : EndOutcome) (t : Time) : (endPadGestures s sf o t).area = s.area := by cases sf <;> rfl
@[simp] theorem endPadGestures_readData (s : State) (sf : Surface) (o : EndOutcome) (t : Time) : (endPadGestures s sf o t).readData = s.readData := by cases sf <;> rfl
@[simp] theorem endPadGestures_pending (s : State) (sf : Surface) (o : EndOutcome) (t : Time) : (endPadGestures s sf o t).pending = s.pending := by cases sf <;> rfl

@[simp] theorem consumeClear_clock (t : Time) (sf : Surface) (s : State) : (consumeClear t sf s).clock = s.clock := by unfold consumeClear; (repeat' split) <;> simp
@[simp] theorem consumeClear_latch (t : Time) (sf : Surface) (s : State) : (consumeClear t sf s).latch = s.latch := by unfold consumeClear; (repeat' split) <;> simp
@[simp] theorem consumeClear_regs (t : Time) (sf : Surface) (s : State) : (consumeClear t sf s).regs = s.regs := by unfold consumeClear; (repeat' split) <;> simp
@[simp] theorem consumeClear_suspension (t : Time) (sf : Surface) (s : State) : (consumeClear t sf s).suspension = s.suspension := by unfold consumeClear; (repeat' split) <;> simp
@[simp] theorem consumeClear_pen (t : Time) (sf : Surface) (s : State) : (consumeClear t sf s).pen = s.pen := by unfold consumeClear; (repeat' split) <;> simp
@[simp] theorem consumeClear_penOut (t : Time) (sf : Surface) (s : State) : (consumeClear t sf s).penOut = s.penOut := by unfold consumeClear; (repeat' split) <;> simp
@[simp] theorem consumeClear_inputs (t : Time) (sf : Surface) (s : State) : (consumeClear t sf s).inputs = s.inputs := by unfold consumeClear; (repeat' split) <;> simp
@[simp] theorem consumeClear_posture (t : Time) (sf : Surface) (s : State) : (consumeClear t sf s).posture = s.posture := by unfold consumeClear; (repeat' split) <;> simp
@[simp] theorem consumeClear_command (t : Time) (sf : Surface) (s : State) : (consumeClear t sf s).command = s.command := by unfold consumeClear; (repeat' split) <;> simp
@[simp] theorem consumeClear_fault (t : Time) (sf : Surface) (s : State) : (consumeClear t sf s).fault = s.fault := by unfold consumeClear; (repeat' split) <;> simp
@[simp] theorem consumeClear_wakeReported (t : Time) (sf : Surface) (s : State) : (consumeClear t sf s).wakeReported = s.wakeReported := by unfold consumeClear; (repeat' split) <;> simp
@[simp] theorem consumeClear_area (t : Time) (sf : Surface) (s : State) : (consumeClear t sf s).area = s.area := by unfold consumeClear; (repeat' split) <;> simp
@[simp] theorem consumeClear_readData (t : Time) (sf : Surface) (s : State) : (consumeClear t sf s).readData = s.readData := by unfold consumeClear; (repeat' split) <;> simp
@[simp] theorem consumeClear_pending (t : Time) (sf : Surface) (s : State) : (consumeClear t sf s).pending = s.pending := by unfold consumeClear; (repeat' split) <;> simp

@[simp] theorem suspensionStep_clock (p : Snapshot) (s : State) : (suspensionStep p s).clock = s.clock := by simp only [suspensionStep]; (repeat' split) <;> rfl
@[simp] theorem suspensionStep_latch (p : Snapshot) (s : State) : (suspensionStep p s).latch = s.latch := by simp only [suspensionStep]; (repeat' split) <;> rfl
@[simp] theorem suspensionStep_regs (p : Snapshot) (s : State) : (suspensionStep p s).regs = s.regs := by simp only [suspensionStep]; (repeat' split) <;> rfl
@[simp] theorem suspensionStep_pad (p : Snapshot) (s : State) : (suspensionStep p s).pad = s.pad := by simp only [suspensionStep]; (repeat' split) <;> rfl
@[simp] theorem suspensionStep_gestures (p : Snapshot) (s : State) : (suspensionStep p s).gestures = s.gestures := by simp only [suspensionStep]; (repeat' split) <;> rfl
@[simp] theorem suspensionStep_pen (p : Snapshot) (s : State) : (suspensionStep p s).pen = s.pen := by simp only [suspensionStep]; (repeat' split) <;> rfl
@[simp] theorem suspensionStep_penOut (p : Snapshot) (s : State) : (suspensionStep p s).penOut = s.penOut := by simp only [suspensionStep]; (repeat' split) <;> rfl
@[simp] theorem suspensionStep_events (p : Snapshot) (s : State) : (suspensionStep p s).events = s.events := by simp only [suspensionStep]; (repeat' split) <;> rfl
@[simp] theorem suspensionStep_inputs (p : Snapshot) (s : State) : (suspensionStep p s).inputs = s.inputs := by simp only [suspensionStep]; (repeat' split) <;> rfl
@[simp] theorem suspensionStep_posture (p : Snapshot) (s : State) : (suspensionStep p s).posture = s.posture := by simp only [suspensionStep]; (repeat' split) <;> rfl
@[simp] theorem suspensionStep_command (p : Snapshot) (s : State) : (suspensionStep p s).command = s.command := by simp only [suspensionStep]; (repeat' split) <;> rfl
@[simp] theorem suspensionStep_fault (p : Snapshot) (s : State) : (suspensionStep p s).fault = s.fault := by simp only [suspensionStep]; (repeat' split) <;> rfl
@[simp] theorem suspensionStep_wakeReported (p : Snapshot) (s : State) : (suspensionStep p s).wakeReported = s.wakeReported := by simp only [suspensionStep]; (repeat' split) <;> rfl
@[simp] theorem suspensionStep_area (p : Snapshot) (s : State) : (suspensionStep p s).area = s.area := by simp only [suspensionStep]; (repeat' split) <;> rfl
@[simp] theorem suspensionStep_readData (p : Snapshot) (s : State) : (suspensionStep p s).readData = s.readData := by simp only [suspensionStep]; (repeat' split) <;> rfl
@[simp] theorem suspensionStep_pending (p : Snapshot) (s : State) : (suspensionStep p s).pending = s.pending := by simp only [suspensionStep]; (repeat' split) <;> rfl

@[simp] theorem takeView_clock (sf : Surface) (p : Snapshot) (s : State) : ((takeView sf p s).2).clock = s.clock := by cases sf <;> simp [takeView]
@[simp] theorem takeView_latch (sf : Surface) (p : Snapshot) (s : State) : ((takeView sf p s).2).latch = s.latch := by cases sf <;> simp [takeView]
@[simp] theorem takeView_regs (sf : Surface) (p : Snapshot) (s : State) : ((takeView sf p s).2).regs = s.regs := by cases sf <;> simp [takeView]
@[simp] theorem takeView_pad (sf : Surface) (p : Snapshot) (s : State) : ((takeView sf p s).2).pad = s.pad := by cases sf <;> simp [takeView]
@[simp] theorem takeView_gestures (sf : Surface) (p : Snapshot) (s : State) : ((takeView sf p s).2).gestures = s.gestures := by cases sf <;> simp [takeView]
@[simp] theorem takeView_pen (sf : Surface) (p : Snapshot) (s : State) : ((takeView sf p s).2).pen = s.pen := by cases sf <;> simp [takeView]
@[simp] theorem takeView_penOut (sf : Surface) (p : Snapshot) (s : State) : ((takeView sf p s).2).penOut = s.penOut := by cases sf <;> simp [takeView]
@[simp] theorem takeView_events (sf : Surface) (p : Snapshot) (s : State) : ((takeView sf p s).2).events = s.events := by cases sf <;> simp [takeView]
@[simp] theorem takeView_inputs (sf : Surface) (p : Snapshot) (s : State) : ((takeView sf p s).2).inputs = s.inputs := by cases sf <;> simp [takeView]
@[simp] theorem takeView_posture (sf : Surface) (p : Snapshot) (s : State) : ((takeView sf p s).2).posture = s.posture := by cases sf <;> simp [takeView]
@[simp] theorem takeView_command (sf : Surface) (p : Snapshot) (s : State) : ((takeView sf p s).2).command = s.command := by cases sf <;> simp [takeView]
@[simp] theorem takeView_fault (sf : Surface) (p : Snapshot) (s : State) : ((takeView sf p s).2).fault = s.fault := by cases sf <;> simp [takeView]
@[simp] theorem takeView_wakeReported (sf : Surface) (p : Snapshot) (s : State) : ((takeView sf p s).2).wakeReported = s.wakeReported := by cases sf <;> simp [takeView]
@[simp] theorem takeView_area (sf : Surface) (p : Snapshot) (s : State) : ((takeView sf p s).2).area = s.area := by cases sf <;> simp [takeView]
@[simp] theorem takeView_readData (sf : Surface) (p : Snapshot) (s : State) : ((takeView sf p s).2).readData = s.readData := by cases sf <;> simp [takeView]
@[simp] theorem takeView_pending (sf : Surface) (p : Snapshot) (s : State) : ((takeView sf p s).2).pending = s.pending := by cases sf <;> simp [takeView]

@[simp] theorem closeAfterSleep_clock (t : Time) (sf : Surface) (s : State) : (closeAfterSleep t sf s).clock = s.clock := by unfold closeAfterSleep; (repeat' split) <;> simp
@[simp] theorem closeAfterSleep_latch (t : Time) (sf : Surface) (s : State) : (closeAfterSleep t sf s).latch = s.latch := by unfold closeAfterSleep; (repeat' split) <;> simp
@[simp] theorem closeAfterSleep_regs (t : Time) (sf : Surface) (s : State) : (closeAfterSleep t sf s).regs = s.regs := by unfold closeAfterSleep; (repeat' split) <;> simp
@[simp] theorem closeAfterSleep_suspension (t : Time) (sf : Surface) (s : State) : (closeAfterSleep t sf s).suspension = s.suspension := by unfold closeAfterSleep; (repeat' split) <;> simp
@[simp] theorem closeAfterSleep_pen (t : Time) (sf : Surface) (s : State) : (closeAfterSleep t sf s).pen = s.pen := by unfold closeAfterSleep; (repeat' split) <;> simp
@[simp] theorem closeAfterSleep_penOut (t : Time) (sf : Surface) (s : State) : (closeAfterSleep t sf s).penOut = s.penOut := by unfold closeAfterSleep; (repeat' split) <;> simp
@[simp] theorem closeAfterSleep_inputs (t : Time) (sf : Surface) (s : State) : (closeAfterSleep t sf s).inputs = s.inputs := by unfold closeAfterSleep; (repeat' split) <;> simp
@[simp] theorem closeAfterSleep_posture (t : Time) (sf : Surface) (s : State) : (closeAfterSleep t sf s).posture = s.posture := by unfold closeAfterSleep; (repeat' split) <;> simp
@[simp] theorem closeAfterSleep_command (t : Time) (sf : Surface) (s : State) : (closeAfterSleep t sf s).command = s.command := by unfold closeAfterSleep; (repeat' split) <;> simp
@[simp] theorem closeAfterSleep_fault (t : Time) (sf : Surface) (s : State) : (closeAfterSleep t sf s).fault = s.fault := by unfold closeAfterSleep; (repeat' split) <;> simp
@[simp] theorem closeAfterSleep_wakeReported (t : Time) (sf : Surface) (s : State) : (closeAfterSleep t sf s).wakeReported = s.wakeReported := by unfold closeAfterSleep; (repeat' split) <;> simp
@[simp] theorem closeAfterSleep_area (t : Time) (sf : Surface) (s : State) : (closeAfterSleep t sf s).area = s.area := by unfold closeAfterSleep; (repeat' split) <;> simp
@[simp] theorem closeAfterSleep_readData (t : Time) (sf : Surface) (s : State) : (closeAfterSleep t sf s).readData = s.readData := by unfold closeAfterSleep; (repeat' split) <;> simp
@[simp] theorem closeAfterSleep_pending (t : Time) (sf : Surface) (s : State) : (closeAfterSleep t sf s).pending = s.pending := by unfold closeAfterSleep; (repeat' split) <;> simp

@[simp] theorem handClosing_clock (sf : Surface) (p : Snapshot) (v : FrameView) (t : Time) (s : State) : (handClosing sf p v t s).clock = s.clock := by simp [handClosing]
@[simp] theorem handClosing_latch (sf : Surface) (p : Snapshot) (v : FrameView) (t : Time) (s : State) : (handClosing sf p v t s).latch = s.latch := by simp [handClosing]
@[simp] theorem handClosing_regs (sf : Surface) (p : Snapshot) (v : FrameView) (t : Time) (s : State) : (handClosing sf p v t s).regs = s.regs := by simp [handClosing]
@[simp] theorem handClosing_suspension (sf : Surface) (p : Snapshot) (v : FrameView) (t : Time) (s : State) : (handClosing sf p v t s).suspension = s.suspension := by simp [handClosing]
@[simp] theorem handClosing_gestures (sf : Surface) (p : Snapshot) (v : FrameView) (t : Time) (s : State) : (handClosing sf p v t s).gestures = s.gestures := by simp [handClosing]
@[simp] theorem handClosing_pen (sf : Surface) (p : Snapshot) (v : FrameView) (t : Time) (s : State) : (handClosing sf p v t s).pen = s.pen := by simp [handClosing]
@[simp] theorem handClosing_penOut (sf : Surface) (p : Snapshot) (v : FrameView) (t : Time) (s : State) : (handClosing sf p v t s).penOut = s.penOut := by simp [handClosing]
@[simp] theorem handClosing_events (sf : Surface) (p : Snapshot) (v : FrameView) (t : Time) (s : State) : (handClosing sf p v t s).events = s.events := by simp [handClosing]
@[simp] theorem handClosing_inputs (sf : Surface) (p : Snapshot) (v : FrameView) (t : Time) (s : State) : (handClosing sf p v t s).inputs = s.inputs := by simp [handClosing]
@[simp] theorem handClosing_posture (sf : Surface) (p : Snapshot) (v : FrameView) (t : Time) (s : State) : (handClosing sf p v t s).posture = s.posture := by simp [handClosing]
@[simp] theorem handClosing_command (sf : Surface) (p : Snapshot) (v : FrameView) (t : Time) (s : State) : (handClosing sf p v t s).command = s.command := by simp [handClosing]
@[simp] theorem handClosing_fault (sf : Surface) (p : Snapshot) (v : FrameView) (t : Time) (s : State) : (handClosing sf p v t s).fault = s.fault := by simp [handClosing]
@[simp] theorem handClosing_wakeReported (sf : Surface) (p : Snapshot) (v : FrameView) (t : Time) (s : State) : (handClosing sf p v t s).wakeReported = s.wakeReported := by simp [handClosing]
@[simp] theorem handClosing_area (sf : Surface) (p : Snapshot) (v : FrameView) (t : Time) (s : State) : (handClosing sf p v t s).area = s.area := by simp [handClosing]
@[simp] theorem handClosing_readData (sf : Surface) (p : Snapshot) (v : FrameView) (t : Time) (s : State) : (handClosing sf p v t s).readData = s.readData := by simp [handClosing]
@[simp] theorem handClosing_pending (sf : Surface) (p : Snapshot) (v : FrameView) (t : Time) (s : State) : (handClosing sf p v t s).pending = s.pending := by simp [handClosing]

@[simp] theorem handClosingIfAny_clock (sf : Surface) (p : Snapshot) (v : FrameView) (t : Time) (s : State) : (handClosingIfAny sf p v t s).clock = s.clock := by unfold handClosingIfAny; (repeat' split) <;> simp
@[simp] theorem handClosingIfAny_latch (sf : Surface) (p : Snapshot) (v : FrameView) (t : Time) (s : State) : (handClosingIfAny sf p v t s).latch = s.latch := by unfold handClosingIfAny; (repeat' split) <;> simp
@[simp] theorem handClosingIfAny_regs (sf : Surface) (p : Snapshot) (v : FrameView) (t : Time) (s : State) : (handClosingIfAny sf p v t s).regs = s.regs := by unfold handClosingIfAny; (repeat' split) <;> simp
@[simp] theorem handClosingIfAny_suspension (sf : Surface) (p : Snapshot) (v : FrameView) (t : Time) (s : State) : (handClosingIfAny sf p v t s).suspension = s.suspension := by unfold handClosingIfAny; (repeat' split) <;> simp
@[simp] theorem handClosingIfAny_gestures (sf : Surface) (p : Snapshot) (v : FrameView) (t : Time) (s : State) : (handClosingIfAny sf p v t s).gestures = s.gestures := by unfold handClosingIfAny; (repeat' split) <;> simp
@[simp] theorem handClosingIfAny_pen (sf : Surface) (p : Snapshot) (v : FrameView) (t : Time) (s : State) : (handClosingIfAny sf p v t s).pen = s.pen := by unfold handClosingIfAny; (repeat' split) <;> simp
@[simp] theorem handClosingIfAny_penOut (sf : Surface) (p : Snapshot) (v : FrameView) (t : Time) (s : State) : (handClosingIfAny sf p v t s).penOut = s.penOut := by unfold handClosingIfAny; (repeat' split) <;> simp
@[simp] theorem handClosingIfAny_events (sf : Surface) (p : Snapshot) (v : FrameView) (t : Time) (s : State) : (handClosingIfAny sf p v t s).events = s.events := by unfold handClosingIfAny; (repeat' split) <;> simp
@[simp] theorem handClosingIfAny_inputs (sf : Surface) (p : Snapshot) (v : FrameView) (t : Time) (s : State) : (handClosingIfAny sf p v t s).inputs = s.inputs := by unfold handClosingIfAny; (repeat' split) <;> simp
@[simp] theorem handClosingIfAny_posture (sf : Surface) (p : Snapshot) (v : FrameView) (t : Time) (s : State) : (handClosingIfAny sf p v t s).posture = s.posture := by unfold handClosingIfAny; (repeat' split) <;> simp
@[simp] theorem handClosingIfAny_command (sf : Surface) (p : Snapshot) (v : FrameView) (t : Time) (s : State) : (handClosingIfAny sf p v t s).command = s.command := by unfold handClosingIfAny; (repeat' split) <;> simp
@[simp] theorem handClosingIfAny_fault (sf : Surface) (p : Snapshot) (v : FrameView) (t : Time) (s : State) : (handClosingIfAny sf p v t s).fault = s.fault := by unfold handClosingIfAny; (repeat' split) <;> simp
@[simp] theorem handClosingIfAny_wakeReported (sf : Surface) (p : Snapshot) (v : FrameView) (t : Time) (s : State) : (handClosingIfAny sf p v t s).wakeReported = s.wakeReported := by unfold handClosingIfAny; (repeat' split) <;> simp
@[simp] theorem handClosingIfAny_area (sf : Surface) (p : Snapshot) (v : FrameView) (t : Time) (s : State) : (handClosingIfAny sf p v t s).area = s.area := by unfold handClosingIfAny; (repeat' split) <;> simp
@[simp] theorem handClosingIfAny_readData (sf : Surface) (p : Snapshot) (v : FrameView) (t : Time) (s : State) : (handClosingIfAny sf p v t s).readData = s.readData := by unfold handClosingIfAny; (repeat' split) <;> simp
@[simp] theorem handClosingIfAny_pending (sf : Surface) (p : Snapshot) (v : FrameView) (t : Time) (s : State) : (handClosingIfAny sf p v t s).pending = s.pending := by unfold handClosingIfAny; (repeat' split) <;> simp

@[simp] theorem setWork_clock (sf : Surface) (p : Snapshot) (v : FrameView) (w : FrameWork) (s : State) : (setWork sf p v w s).clock = s.clock := by simp [setWork]
@[simp] theorem setWork_latch (sf : Surface) (p : Snapshot) (v : FrameView) (w : FrameWork) (s : State) : (setWork sf p v w s).latch = s.latch := by simp [setWork]
@[simp] theorem setWork_regs (sf : Surface) (p : Snapshot) (v : FrameView) (w : FrameWork) (s : State) : (setWork sf p v w s).regs = s.regs := by simp [setWork]
@[simp] theorem setWork_suspension (sf : Surface) (p : Snapshot) (v : FrameView) (w : FrameWork) (s : State) : (setWork sf p v w s).suspension = s.suspension := by simp [setWork]
@[simp] theorem setWork_gestures (sf : Surface) (p : Snapshot) (v : FrameView) (w : FrameWork) (s : State) : (setWork sf p v w s).gestures = s.gestures := by simp [setWork]
@[simp] theorem setWork_pen (sf : Surface) (p : Snapshot) (v : FrameView) (w : FrameWork) (s : State) : (setWork sf p v w s).pen = s.pen := by simp [setWork]
@[simp] theorem setWork_penOut (sf : Surface) (p : Snapshot) (v : FrameView) (w : FrameWork) (s : State) : (setWork sf p v w s).penOut = s.penOut := by simp [setWork]
@[simp] theorem setWork_events (sf : Surface) (p : Snapshot) (v : FrameView) (w : FrameWork) (s : State) : (setWork sf p v w s).events = s.events := by simp [setWork]
@[simp] theorem setWork_inputs (sf : Surface) (p : Snapshot) (v : FrameView) (w : FrameWork) (s : State) : (setWork sf p v w s).inputs = s.inputs := by simp [setWork]
@[simp] theorem setWork_posture (sf : Surface) (p : Snapshot) (v : FrameView) (w : FrameWork) (s : State) : (setWork sf p v w s).posture = s.posture := by simp [setWork]
@[simp] theorem setWork_command (sf : Surface) (p : Snapshot) (v : FrameView) (w : FrameWork) (s : State) : (setWork sf p v w s).command = s.command := by simp [setWork]
@[simp] theorem setWork_fault (sf : Surface) (p : Snapshot) (v : FrameView) (w : FrameWork) (s : State) : (setWork sf p v w s).fault = s.fault := by simp [setWork]
@[simp] theorem setWork_wakeReported (sf : Surface) (p : Snapshot) (v : FrameView) (w : FrameWork) (s : State) : (setWork sf p v w s).wakeReported = s.wakeReported := by simp [setWork]
@[simp] theorem setWork_area (sf : Surface) (p : Snapshot) (v : FrameView) (w : FrameWork) (s : State) : (setWork sf p v w s).area = s.area := by simp [setWork]
@[simp] theorem setWork_readData (sf : Surface) (p : Snapshot) (v : FrameView) (w : FrameWork) (s : State) : (setWork sf p v w s).readData = s.readData := by simp [setWork]
@[simp] theorem setWork_pending (sf : Surface) (p : Snapshot) (v : FrameView) (w : FrameWork) (s : State) : (setWork sf p v w s).pending = s.pending := by simp [setWork]

@[simp] theorem startDiscard_clock (sf : Surface) (p : Snapshot) (v : FrameView) (t : Time) (s : State) : (startDiscard sf p v t s).clock = s.clock := by simp [startDiscard]
@[simp] theorem startDiscard_latch (sf : Surface) (p : Snapshot) (v : FrameView) (t : Time) (s : State) : (startDiscard sf p v t s).latch = s.latch := by simp [startDiscard]
@[simp] theorem startDiscard_regs (sf : Surface) (p : Snapshot) (v : FrameView) (t : Time) (s : State) : (startDiscard sf p v t s).regs = s.regs := by simp [startDiscard]
@[simp] theorem startDiscard_suspension (sf : Surface) (p : Snapshot) (v : FrameView) (t : Time) (s : State) : (startDiscard sf p v t s).suspension = s.suspension := by simp [startDiscard]
@[simp] theorem startDiscard_gestures (sf : Surface) (p : Snapshot) (v : FrameView) (t : Time) (s : State) : (startDiscard sf p v t s).gestures = s.gestures := by simp [startDiscard]
@[simp] theorem startDiscard_pen (sf : Surface) (p : Snapshot) (v : FrameView) (t : Time) (s : State) : (startDiscard sf p v t s).pen = s.pen := by simp [startDiscard]
@[simp] theorem startDiscard_penOut (sf : Surface) (p : Snapshot) (v : FrameView) (t : Time) (s : State) : (startDiscard sf p v t s).penOut = s.penOut := by simp [startDiscard]
@[simp] theorem startDiscard_events (sf : Surface) (p : Snapshot) (v : FrameView) (t : Time) (s : State) : (startDiscard sf p v t s).events = s.events := by simp [startDiscard]
@[simp] theorem startDiscard_inputs (sf : Surface) (p : Snapshot) (v : FrameView) (t : Time) (s : State) : (startDiscard sf p v t s).inputs = s.inputs := by simp [startDiscard]
@[simp] theorem startDiscard_posture (sf : Surface) (p : Snapshot) (v : FrameView) (t : Time) (s : State) : (startDiscard sf p v t s).posture = s.posture := by simp [startDiscard]
@[simp] theorem startDiscard_command (sf : Surface) (p : Snapshot) (v : FrameView) (t : Time) (s : State) : (startDiscard sf p v t s).command = s.command := by simp [startDiscard]
@[simp] theorem startDiscard_fault (sf : Surface) (p : Snapshot) (v : FrameView) (t : Time) (s : State) : (startDiscard sf p v t s).fault = s.fault := by simp [startDiscard]
@[simp] theorem startDiscard_wakeReported (sf : Surface) (p : Snapshot) (v : FrameView) (t : Time) (s : State) : (startDiscard sf p v t s).wakeReported = s.wakeReported := by simp [startDiscard]
@[simp] theorem startDiscard_area (sf : Surface) (p : Snapshot) (v : FrameView) (t : Time) (s : State) : (startDiscard sf p v t s).area = s.area := by simp [startDiscard]
@[simp] theorem startDiscard_readData (sf : Surface) (p : Snapshot) (v : FrameView) (t : Time) (s : State) : (startDiscard sf p v t s).readData = s.readData := by simp [startDiscard]
@[simp] theorem startDiscard_pending (sf : Surface) (p : Snapshot) (v : FrameView) (t : Time) (s : State) : (startDiscard sf p v t s).pending = s.pending := by simp [startDiscard]

@[simp] theorem padFloor_clock (sf : Surface) (p : Snapshot) (t : Time) (s : State) : (padFloor sf p t s).clock = s.clock := by cases sf <;> rfl
@[simp] theorem padFloor_latch (sf : Surface) (p : Snapshot) (t : Time) (s : State) : (padFloor sf p t s).latch = s.latch := by cases sf <;> rfl
@[simp] theorem padFloor_regs (sf : Surface) (p : Snapshot) (t : Time) (s : State) : (padFloor sf p t s).regs = s.regs := by cases sf <;> rfl
@[simp] theorem padFloor_pad (sf : Surface) (p : Snapshot) (t : Time) (s : State) : (padFloor sf p t s).pad = s.pad := by cases sf <;> rfl
@[simp] theorem padFloor_screen (sf : Surface) (p : Snapshot) (t : Time) (s : State) : (padFloor sf p t s).screen = s.screen := by cases sf <;> rfl
@[simp] theorem padFloor_suspension (sf : Surface) (p : Snapshot) (t : Time) (s : State) : (padFloor sf p t s).suspension = s.suspension := by cases sf <;> rfl
@[simp] theorem padFloor_pen (sf : Surface) (p : Snapshot) (t : Time) (s : State) : (padFloor sf p t s).pen = s.pen := by cases sf <;> rfl
@[simp] theorem padFloor_penOut (sf : Surface) (p : Snapshot) (t : Time) (s : State) : (padFloor sf p t s).penOut = s.penOut := by cases sf <;> rfl
@[simp] theorem padFloor_inputs (sf : Surface) (p : Snapshot) (t : Time) (s : State) : (padFloor sf p t s).inputs = s.inputs := by cases sf <;> rfl
@[simp] theorem padFloor_posture (sf : Surface) (p : Snapshot) (t : Time) (s : State) : (padFloor sf p t s).posture = s.posture := by cases sf <;> rfl
@[simp] theorem padFloor_command (sf : Surface) (p : Snapshot) (t : Time) (s : State) : (padFloor sf p t s).command = s.command := by cases sf <;> rfl
@[simp] theorem padFloor_fault (sf : Surface) (p : Snapshot) (t : Time) (s : State) : (padFloor sf p t s).fault = s.fault := by cases sf <;> rfl
@[simp] theorem padFloor_wakeReported (sf : Surface) (p : Snapshot) (t : Time) (s : State) : (padFloor sf p t s).wakeReported = s.wakeReported := by cases sf <;> rfl
@[simp] theorem padFloor_area (sf : Surface) (p : Snapshot) (t : Time) (s : State) : (padFloor sf p t s).area = s.area := by cases sf <;> rfl
@[simp] theorem padFloor_readData (sf : Surface) (p : Snapshot) (t : Time) (s : State) : (padFloor sf p t s).readData = s.readData := by cases sf <;> rfl
@[simp] theorem padFloor_pending (sf : Surface) (p : Snapshot) (t : Time) (s : State) : (padFloor sf p t s).pending = s.pending := by cases sf <;> rfl

@[simp] theorem startTrack_clock (sf : Surface) (p : Snapshot) (v : FrameView) (t : Time) (s : State) : (startTrack sf p v t s).clock = s.clock := by simp [startTrack]
@[simp] theorem startTrack_latch (sf : Surface) (p : Snapshot) (v : FrameView) (t : Time) (s : State) : (startTrack sf p v t s).latch = s.latch := by simp [startTrack]
@[simp] theorem startTrack_regs (sf : Surface) (p : Snapshot) (v : FrameView) (t : Time) (s : State) : (startTrack sf p v t s).regs = s.regs := by simp [startTrack]
@[simp] theorem startTrack_suspension (sf : Surface) (p : Snapshot) (v : FrameView) (t : Time) (s : State) : (startTrack sf p v t s).suspension = s.suspension := by simp [startTrack]
@[simp] theorem startTrack_pen (sf : Surface) (p : Snapshot) (v : FrameView) (t : Time) (s : State) : (startTrack sf p v t s).pen = s.pen := by simp [startTrack]
@[simp] theorem startTrack_penOut (sf : Surface) (p : Snapshot) (v : FrameView) (t : Time) (s : State) : (startTrack sf p v t s).penOut = s.penOut := by simp [startTrack]
@[simp] theorem startTrack_inputs (sf : Surface) (p : Snapshot) (v : FrameView) (t : Time) (s : State) : (startTrack sf p v t s).inputs = s.inputs := by simp [startTrack]
@[simp] theorem startTrack_posture (sf : Surface) (p : Snapshot) (v : FrameView) (t : Time) (s : State) : (startTrack sf p v t s).posture = s.posture := by simp [startTrack]
@[simp] theorem startTrack_command (sf : Surface) (p : Snapshot) (v : FrameView) (t : Time) (s : State) : (startTrack sf p v t s).command = s.command := by simp [startTrack]
@[simp] theorem startTrack_fault (sf : Surface) (p : Snapshot) (v : FrameView) (t : Time) (s : State) : (startTrack sf p v t s).fault = s.fault := by simp [startTrack]
@[simp] theorem startTrack_wakeReported (sf : Surface) (p : Snapshot) (v : FrameView) (t : Time) (s : State) : (startTrack sf p v t s).wakeReported = s.wakeReported := by simp [startTrack]
@[simp] theorem startTrack_area (sf : Surface) (p : Snapshot) (v : FrameView) (t : Time) (s : State) : (startTrack sf p v t s).area = s.area := by simp [startTrack]
@[simp] theorem startTrack_readData (sf : Surface) (p : Snapshot) (v : FrameView) (t : Time) (s : State) : (startTrack sf p v t s).readData = s.readData := by simp [startTrack]
@[simp] theorem startTrack_pending (sf : Surface) (p : Snapshot) (v : FrameView) (t : Time) (s : State) : (startTrack sf p v t s).pending = s.pending := by simp [startTrack]

@[simp] theorem openPen_clock (sf : Surface) (s : State) : (openPen sf s).clock = s.clock := by cases sf <;> rfl
@[simp] theorem openPen_latch (sf : Surface) (s : State) : (openPen sf s).latch = s.latch := by cases sf <;> rfl
@[simp] theorem openPen_regs (sf : Surface) (s : State) : (openPen sf s).regs = s.regs := by cases sf <;> rfl
@[simp] theorem openPen_pad (sf : Surface) (s : State) : (openPen sf s).pad = s.pad := by cases sf <;> rfl
@[simp] theorem openPen_screen (sf : Surface) (s : State) : (openPen sf s).screen = s.screen := by cases sf <;> rfl
@[simp] theorem openPen_suspension (sf : Surface) (s : State) : (openPen sf s).suspension = s.suspension := by cases sf <;> rfl
@[simp] theorem openPen_gestures (sf : Surface) (s : State) : (openPen sf s).gestures = s.gestures := by cases sf <;> rfl
@[simp] theorem openPen_penOut (sf : Surface) (s : State) : (openPen sf s).penOut = s.penOut := by cases sf <;> rfl
@[simp] theorem openPen_events (sf : Surface) (s : State) : (openPen sf s).events = s.events := by cases sf <;> rfl
@[simp] theorem openPen_inputs (sf : Surface) (s : State) : (openPen sf s).inputs = s.inputs := by cases sf <;> rfl
@[simp] theorem openPen_posture (sf : Surface) (s : State) : (openPen sf s).posture = s.posture := by cases sf <;> rfl
@[simp] theorem openPen_command (sf : Surface) (s : State) : (openPen sf s).command = s.command := by cases sf <;> rfl
@[simp] theorem openPen_fault (sf : Surface) (s : State) : (openPen sf s).fault = s.fault := by cases sf <;> rfl
@[simp] theorem openPen_wakeReported (sf : Surface) (s : State) : (openPen sf s).wakeReported = s.wakeReported := by cases sf <;> rfl
@[simp] theorem openPen_area (sf : Surface) (s : State) : (openPen sf s).area = s.area := by cases sf <;> rfl
@[simp] theorem openPen_readData (sf : Surface) (s : State) : (openPen sf s).readData = s.readData := by cases sf <;> rfl
@[simp] theorem openPen_pending (sf : Surface) (s : State) : (openPen sf s).pending = s.pending := by cases sf <;> rfl

@[simp] theorem closePen_clock (sf : Surface) (s : State) : (closePen sf s).clock = s.clock := by cases sf <;> simp [closePen]
@[simp] theorem closePen_latch (sf : Surface) (s : State) : (closePen sf s).latch = s.latch := by cases sf <;> simp [closePen]
@[simp] theorem closePen_regs (sf : Surface) (s : State) : (closePen sf s).regs = s.regs := by cases sf <;> simp [closePen]
@[simp] theorem closePen_pad (sf : Surface) (s : State) : (closePen sf s).pad = s.pad := by cases sf <;> simp [closePen]
@[simp] theorem closePen_screen (sf : Surface) (s : State) : (closePen sf s).screen = s.screen := by cases sf <;> simp [closePen]
@[simp] theorem closePen_suspension (sf : Surface) (s : State) : (closePen sf s).suspension = s.suspension := by cases sf <;> simp [closePen]
@[simp] theorem closePen_gestures (sf : Surface) (s : State) : (closePen sf s).gestures = s.gestures := by cases sf <;> simp [closePen]
@[simp] theorem closePen_inputs (sf : Surface) (s : State) : (closePen sf s).inputs = s.inputs := by cases sf <;> simp [closePen]
@[simp] theorem closePen_posture (sf : Surface) (s : State) : (closePen sf s).posture = s.posture := by cases sf <;> simp [closePen]
@[simp] theorem closePen_command (sf : Surface) (s : State) : (closePen sf s).command = s.command := by cases sf <;> simp [closePen]
@[simp] theorem closePen_fault (sf : Surface) (s : State) : (closePen sf s).fault = s.fault := by cases sf <;> simp [closePen]
@[simp] theorem closePen_wakeReported (sf : Surface) (s : State) : (closePen sf s).wakeReported = s.wakeReported := by cases sf <;> simp [closePen]
@[simp] theorem closePen_area (sf : Surface) (s : State) : (closePen sf s).area = s.area := by cases sf <;> simp [closePen]
@[simp] theorem closePen_readData (sf : Surface) (s : State) : (closePen sf s).readData = s.readData := by cases sf <;> simp [closePen]
@[simp] theorem closePen_pending (sf : Surface) (s : State) : (closePen sf s).pending = s.pending := by cases sf <;> simp [closePen]

@[simp] theorem startSettling_clock (sf : Surface) (p : Snapshot) (v : FrameView) (t : Time) (s : State) : (startSettling sf p v t s).clock = s.clock := by simp only [startSettling]; split <;> simp
@[simp] theorem startSettling_latch (sf : Surface) (p : Snapshot) (v : FrameView) (t : Time) (s : State) : (startSettling sf p v t s).latch = s.latch := by simp only [startSettling]; split <;> simp
@[simp] theorem startSettling_regs (sf : Surface) (p : Snapshot) (v : FrameView) (t : Time) (s : State) : (startSettling sf p v t s).regs = s.regs := by simp only [startSettling]; split <;> simp
@[simp] theorem startSettling_suspension (sf : Surface) (p : Snapshot) (v : FrameView) (t : Time) (s : State) : (startSettling sf p v t s).suspension = s.suspension := by simp only [startSettling]; split <;> simp
@[simp] theorem startSettling_penOut (sf : Surface) (p : Snapshot) (v : FrameView) (t : Time) (s : State) : (startSettling sf p v t s).penOut = s.penOut := by simp only [startSettling]; split <;> simp
@[simp] theorem startSettling_inputs (sf : Surface) (p : Snapshot) (v : FrameView) (t : Time) (s : State) : (startSettling sf p v t s).inputs = s.inputs := by simp only [startSettling]; split <;> simp
@[simp] theorem startSettling_posture (sf : Surface) (p : Snapshot) (v : FrameView) (t : Time) (s : State) : (startSettling sf p v t s).posture = s.posture := by simp only [startSettling]; split <;> simp
@[simp] theorem startSettling_command (sf : Surface) (p : Snapshot) (v : FrameView) (t : Time) (s : State) : (startSettling sf p v t s).command = s.command := by simp only [startSettling]; split <;> simp
@[simp] theorem startSettling_fault (sf : Surface) (p : Snapshot) (v : FrameView) (t : Time) (s : State) : (startSettling sf p v t s).fault = s.fault := by simp only [startSettling]; split <;> simp
@[simp] theorem startSettling_wakeReported (sf : Surface) (p : Snapshot) (v : FrameView) (t : Time) (s : State) : (startSettling sf p v t s).wakeReported = s.wakeReported := by simp only [startSettling]; split <;> simp
@[simp] theorem startSettling_area (sf : Surface) (p : Snapshot) (v : FrameView) (t : Time) (s : State) : (startSettling sf p v t s).area = s.area := by simp only [startSettling]; split <;> simp
@[simp] theorem startSettling_readData (sf : Surface) (p : Snapshot) (v : FrameView) (t : Time) (s : State) : (startSettling sf p v t s).readData = s.readData := by simp only [startSettling]; split <;> simp
@[simp] theorem startSettling_pending (sf : Surface) (p : Snapshot) (v : FrameView) (t : Time) (s : State) : (startSettling sf p v t s).pending = s.pending := by simp only [startSettling]; split <;> simp

@[simp] theorem startDeactivation_clock (sf : Surface) (p : Snapshot) (v : FrameView) (t : Time) (s : State) : (startDeactivation sf p v t s).clock = s.clock := by simp [startDeactivation]
@[simp] theorem startDeactivation_latch (sf : Surface) (p : Snapshot) (v : FrameView) (t : Time) (s : State) : (startDeactivation sf p v t s).latch = s.latch := by simp [startDeactivation]
@[simp] theorem startDeactivation_regs (sf : Surface) (p : Snapshot) (v : FrameView) (t : Time) (s : State) : (startDeactivation sf p v t s).regs = s.regs := by simp [startDeactivation]
@[simp] theorem startDeactivation_suspension (sf : Surface) (p : Snapshot) (v : FrameView) (t : Time) (s : State) : (startDeactivation sf p v t s).suspension = s.suspension := by simp [startDeactivation]
@[simp] theorem startDeactivation_inputs (sf : Surface) (p : Snapshot) (v : FrameView) (t : Time) (s : State) : (startDeactivation sf p v t s).inputs = s.inputs := by simp [startDeactivation]
@[simp] theorem startDeactivation_posture (sf : Surface) (p : Snapshot) (v : FrameView) (t : Time) (s : State) : (startDeactivation sf p v t s).posture = s.posture := by simp [startDeactivation]
@[simp] theorem startDeactivation_command (sf : Surface) (p : Snapshot) (v : FrameView) (t : Time) (s : State) : (startDeactivation sf p v t s).command = s.command := by simp [startDeactivation]
@[simp] theorem startDeactivation_fault (sf : Surface) (p : Snapshot) (v : FrameView) (t : Time) (s : State) : (startDeactivation sf p v t s).fault = s.fault := by simp [startDeactivation]
@[simp] theorem startDeactivation_wakeReported (sf : Surface) (p : Snapshot) (v : FrameView) (t : Time) (s : State) : (startDeactivation sf p v t s).wakeReported = s.wakeReported := by simp [startDeactivation]
@[simp] theorem startDeactivation_area (sf : Surface) (p : Snapshot) (v : FrameView) (t : Time) (s : State) : (startDeactivation sf p v t s).area = s.area := by simp [startDeactivation]
@[simp] theorem startDeactivation_readData (sf : Surface) (p : Snapshot) (v : FrameView) (t : Time) (s : State) : (startDeactivation sf p v t s).readData = s.readData := by simp [startDeactivation]
@[simp] theorem startDeactivation_pending (sf : Surface) (p : Snapshot) (v : FrameView) (t : Time) (s : State) : (startDeactivation sf p v t s).pending = s.pending := by simp [startDeactivation]

@[simp] theorem startBankChange_clock (sf : Surface) (p : Snapshot) (v : FrameView) (t : Time) (s : State) : (startBankChange sf p v t s).clock = s.clock := by simp [startBankChange]
@[simp] theorem startBankChange_latch (sf : Surface) (p : Snapshot) (v : FrameView) (t : Time) (s : State) : (startBankChange sf p v t s).latch = s.latch := by simp [startBankChange]
@[simp] theorem startBankChange_regs (sf : Surface) (p : Snapshot) (v : FrameView) (t : Time) (s : State) : (startBankChange sf p v t s).regs = s.regs := by simp [startBankChange]
@[simp] theorem startBankChange_suspension (sf : Surface) (p : Snapshot) (v : FrameView) (t : Time) (s : State) : (startBankChange sf p v t s).suspension = s.suspension := by simp [startBankChange]
@[simp] theorem startBankChange_pen (sf : Surface) (p : Snapshot) (v : FrameView) (t : Time) (s : State) : (startBankChange sf p v t s).pen = s.pen := by simp [startBankChange]
@[simp] theorem startBankChange_penOut (sf : Surface) (p : Snapshot) (v : FrameView) (t : Time) (s : State) : (startBankChange sf p v t s).penOut = s.penOut := by simp [startBankChange]
@[simp] theorem startBankChange_inputs (sf : Surface) (p : Snapshot) (v : FrameView) (t : Time) (s : State) : (startBankChange sf p v t s).inputs = s.inputs := by simp [startBankChange]
@[simp] theorem startBankChange_posture (sf : Surface) (p : Snapshot) (v : FrameView) (t : Time) (s : State) : (startBankChange sf p v t s).posture = s.posture := by simp [startBankChange]
@[simp] theorem startBankChange_command (sf : Surface) (p : Snapshot) (v : FrameView) (t : Time) (s : State) : (startBankChange sf p v t s).command = s.command := by simp [startBankChange]
@[simp] theorem startBankChange_fault (sf : Surface) (p : Snapshot) (v : FrameView) (t : Time) (s : State) : (startBankChange sf p v t s).fault = s.fault := by simp [startBankChange]
@[simp] theorem startBankChange_wakeReported (sf : Surface) (p : Snapshot) (v : FrameView) (t : Time) (s : State) : (startBankChange sf p v t s).wakeReported = s.wakeReported := by simp [startBankChange]
@[simp] theorem startBankChange_area (sf : Surface) (p : Snapshot) (v : FrameView) (t : Time) (s : State) : (startBankChange sf p v t s).area = s.area := by simp [startBankChange]
@[simp] theorem startBankChange_readData (sf : Surface) (p : Snapshot) (v : FrameView) (t : Time) (s : State) : (startBankChange sf p v t s).readData = s.readData := by simp [startBankChange]
@[simp] theorem startBankChange_pending (sf : Surface) (p : Snapshot) (v : FrameView) (t : Time) (s : State) : (startBankChange sf p v t s).pending = s.pending := by simp [startBankChange]

@[simp] theorem outcomeRunning_clock (sf : Surface) (p : Snapshot) (v : FrameView) (t : Time) (s : State) : (outcomeRunning sf p v t s).clock = s.clock := by simp only [outcomeRunning]; (repeat' split) <;> simp
@[simp] theorem outcomeRunning_latch (sf : Surface) (p : Snapshot) (v : FrameView) (t : Time) (s : State) : (outcomeRunning sf p v t s).latch = s.latch := by simp only [outcomeRunning]; (repeat' split) <;> simp
@[simp] theorem outcomeRunning_regs (sf : Surface) (p : Snapshot) (v : FrameView) (t : Time) (s : State) : (outcomeRunning sf p v t s).regs = s.regs := by simp only [outcomeRunning]; (repeat' split) <;> simp
@[simp] theorem outcomeRunning_suspension (sf : Surface) (p : Snapshot) (v : FrameView) (t : Time) (s : State) : (outcomeRunning sf p v t s).suspension = s.suspension := by simp only [outcomeRunning]; (repeat' split) <;> simp
@[simp] theorem outcomeRunning_inputs (sf : Surface) (p : Snapshot) (v : FrameView) (t : Time) (s : State) : (outcomeRunning sf p v t s).inputs = s.inputs := by simp only [outcomeRunning]; (repeat' split) <;> simp
@[simp] theorem outcomeRunning_posture (sf : Surface) (p : Snapshot) (v : FrameView) (t : Time) (s : State) : (outcomeRunning sf p v t s).posture = s.posture := by simp only [outcomeRunning]; (repeat' split) <;> simp
@[simp] theorem outcomeRunning_command (sf : Surface) (p : Snapshot) (v : FrameView) (t : Time) (s : State) : (outcomeRunning sf p v t s).command = s.command := by simp only [outcomeRunning]; (repeat' split) <;> simp
@[simp] theorem outcomeRunning_fault (sf : Surface) (p : Snapshot) (v : FrameView) (t : Time) (s : State) : (outcomeRunning sf p v t s).fault = s.fault := by simp only [outcomeRunning]; (repeat' split) <;> simp
@[simp] theorem outcomeRunning_wakeReported (sf : Surface) (p : Snapshot) (v : FrameView) (t : Time) (s : State) : (outcomeRunning sf p v t s).wakeReported = s.wakeReported := by simp only [outcomeRunning]; (repeat' split) <;> simp
@[simp] theorem outcomeRunning_area (sf : Surface) (p : Snapshot) (v : FrameView) (t : Time) (s : State) : (outcomeRunning sf p v t s).area = s.area := by simp only [outcomeRunning]; (repeat' split) <;> simp
@[simp] theorem outcomeRunning_readData (sf : Surface) (p : Snapshot) (v : FrameView) (t : Time) (s : State) : (outcomeRunning sf p v t s).readData = s.readData := by simp only [outcomeRunning]; (repeat' split) <;> simp
@[simp] theorem outcomeRunning_pending (sf : Surface) (p : Snapshot) (v : FrameView) (t : Time) (s : State) : (outcomeRunning sf p v t s).pending = s.pending := by simp only [outcomeRunning]; (repeat' split) <;> simp

@[simp] theorem outcomeDoze_clock (sf : Surface) (p : Snapshot) (v : FrameView) (t : Time) (s : State) : (outcomeDoze sf p v t s).clock = s.clock := by simp only [outcomeDoze]; split <;> simp
@[simp] theorem outcomeDoze_latch (sf : Surface) (p : Snapshot) (v : FrameView) (t : Time) (s : State) : (outcomeDoze sf p v t s).latch = s.latch := by simp only [outcomeDoze]; split <;> simp
@[simp] theorem outcomeDoze_regs (sf : Surface) (p : Snapshot) (v : FrameView) (t : Time) (s : State) : (outcomeDoze sf p v t s).regs = s.regs := by simp only [outcomeDoze]; split <;> simp
@[simp] theorem outcomeDoze_suspension (sf : Surface) (p : Snapshot) (v : FrameView) (t : Time) (s : State) : (outcomeDoze sf p v t s).suspension = s.suspension := by simp only [outcomeDoze]; split <;> simp
@[simp] theorem outcomeDoze_gestures (sf : Surface) (p : Snapshot) (v : FrameView) (t : Time) (s : State) : (outcomeDoze sf p v t s).gestures = s.gestures := by simp only [outcomeDoze]; split <;> simp
@[simp] theorem outcomeDoze_pen (sf : Surface) (p : Snapshot) (v : FrameView) (t : Time) (s : State) : (outcomeDoze sf p v t s).pen = s.pen := by simp only [outcomeDoze]; split <;> simp
@[simp] theorem outcomeDoze_penOut (sf : Surface) (p : Snapshot) (v : FrameView) (t : Time) (s : State) : (outcomeDoze sf p v t s).penOut = s.penOut := by simp only [outcomeDoze]; split <;> simp
@[simp] theorem outcomeDoze_events (sf : Surface) (p : Snapshot) (v : FrameView) (t : Time) (s : State) : (outcomeDoze sf p v t s).events = s.events := by simp only [outcomeDoze]; split <;> simp
@[simp] theorem outcomeDoze_inputs (sf : Surface) (p : Snapshot) (v : FrameView) (t : Time) (s : State) : (outcomeDoze sf p v t s).inputs = s.inputs := by simp only [outcomeDoze]; split <;> simp
@[simp] theorem outcomeDoze_posture (sf : Surface) (p : Snapshot) (v : FrameView) (t : Time) (s : State) : (outcomeDoze sf p v t s).posture = s.posture := by simp only [outcomeDoze]; split <;> simp
@[simp] theorem outcomeDoze_command (sf : Surface) (p : Snapshot) (v : FrameView) (t : Time) (s : State) : (outcomeDoze sf p v t s).command = s.command := by simp only [outcomeDoze]; split <;> simp
@[simp] theorem outcomeDoze_fault (sf : Surface) (p : Snapshot) (v : FrameView) (t : Time) (s : State) : (outcomeDoze sf p v t s).fault = s.fault := by simp only [outcomeDoze]; split <;> simp
@[simp] theorem outcomeDoze_wakeReported (sf : Surface) (p : Snapshot) (v : FrameView) (t : Time) (s : State) : (outcomeDoze sf p v t s).wakeReported = s.wakeReported := by simp only [outcomeDoze]; split <;> simp
@[simp] theorem outcomeDoze_area (sf : Surface) (p : Snapshot) (v : FrameView) (t : Time) (s : State) : (outcomeDoze sf p v t s).area = s.area := by simp only [outcomeDoze]; split <;> simp
@[simp] theorem outcomeDoze_readData (sf : Surface) (p : Snapshot) (v : FrameView) (t : Time) (s : State) : (outcomeDoze sf p v t s).readData = s.readData := by simp only [outcomeDoze]; split <;> simp
@[simp] theorem outcomeDoze_pending (sf : Surface) (p : Snapshot) (v : FrameView) (t : Time) (s : State) : (outcomeDoze sf p v t s).pending = s.pending := by simp only [outcomeDoze]; split <;> simp

@[simp] theorem startFrame_clock (sf : Surface) (t : Time) (s : State) : (startFrame sf t s).clock = s.clock := by simp only [startFrame]; split <;> simp
@[simp] theorem startFrame_latch (sf : Surface) (t : Time) (s : State) : (startFrame sf t s).latch = s.latch := by simp only [startFrame]; split <;> simp
@[simp] theorem startFrame_regs (sf : Surface) (t : Time) (s : State) : (startFrame sf t s).regs = s.regs := by simp only [startFrame]; split <;> simp
@[simp] theorem startFrame_inputs (sf : Surface) (t : Time) (s : State) : (startFrame sf t s).inputs = s.inputs := by simp only [startFrame]; split <;> simp
@[simp] theorem startFrame_posture (sf : Surface) (t : Time) (s : State) : (startFrame sf t s).posture = s.posture := by simp only [startFrame]; split <;> simp
@[simp] theorem startFrame_command (sf : Surface) (t : Time) (s : State) : (startFrame sf t s).command = s.command := by simp only [startFrame]; split <;> simp
@[simp] theorem startFrame_fault (sf : Surface) (t : Time) (s : State) : (startFrame sf t s).fault = s.fault := by simp only [startFrame]; split <;> simp
@[simp] theorem startFrame_wakeReported (sf : Surface) (t : Time) (s : State) : (startFrame sf t s).wakeReported = s.wakeReported := by simp only [startFrame]; split <;> simp
@[simp] theorem startFrame_area (sf : Surface) (t : Time) (s : State) : (startFrame sf t s).area = s.area := by simp only [startFrame]; split <;> simp
@[simp] theorem startFrame_readData (sf : Surface) (t : Time) (s : State) : (startFrame sf t s).readData = s.readData := by simp only [startFrame]; split <;> simp
@[simp] theorem startFrame_pending (sf : Surface) (t : Time) (s : State) : (startFrame sf t s).pending = s.pending := by simp only [startFrame]; split <;> simp

@[simp] theorem padGestures_clock (sf : Surface) (st : FrameStart) (f : Frame) (r : Classification) (l : List Contact) (s : State) : (padGestures sf st f r l s).clock = s.clock := by cases sf <;> rfl
@[simp] theorem padGestures_latch (sf : Surface) (st : FrameStart) (f : Frame) (r : Classification) (l : List Contact) (s : State) : (padGestures sf st f r l s).latch = s.latch := by cases sf <;> rfl
@[simp] theorem padGestures_regs (sf : Surface) (st : FrameStart) (f : Frame) (r : Classification) (l : List Contact) (s : State) : (padGestures sf st f r l s).regs = s.regs := by cases sf <;> rfl
@[simp] theorem padGestures_pad (sf : Surface) (st : FrameStart) (f : Frame) (r : Classification) (l : List Contact) (s : State) : (padGestures sf st f r l s).pad = s.pad := by cases sf <;> rfl
@[simp] theorem padGestures_screen (sf : Surface) (st : FrameStart) (f : Frame) (r : Classification) (l : List Contact) (s : State) : (padGestures sf st f r l s).screen = s.screen := by cases sf <;> rfl
@[simp] theorem padGestures_suspension (sf : Surface) (st : FrameStart) (f : Frame) (r : Classification) (l : List Contact) (s : State) : (padGestures sf st f r l s).suspension = s.suspension := by cases sf <;> rfl
@[simp] theorem padGestures_pen (sf : Surface) (st : FrameStart) (f : Frame) (r : Classification) (l : List Contact) (s : State) : (padGestures sf st f r l s).pen = s.pen := by cases sf <;> rfl
@[simp] theorem padGestures_penOut (sf : Surface) (st : FrameStart) (f : Frame) (r : Classification) (l : List Contact) (s : State) : (padGestures sf st f r l s).penOut = s.penOut := by cases sf <;> rfl
@[simp] theorem padGestures_inputs (sf : Surface) (st : FrameStart) (f : Frame) (r : Classification) (l : List Contact) (s : State) : (padGestures sf st f r l s).inputs = s.inputs := by cases sf <;> rfl
@[simp] theorem padGestures_posture (sf : Surface) (st : FrameStart) (f : Frame) (r : Classification) (l : List Contact) (s : State) : (padGestures sf st f r l s).posture = s.posture := by cases sf <;> rfl
@[simp] theorem padGestures_command (sf : Surface) (st : FrameStart) (f : Frame) (r : Classification) (l : List Contact) (s : State) : (padGestures sf st f r l s).command = s.command := by cases sf <;> rfl
@[simp] theorem padGestures_fault (sf : Surface) (st : FrameStart) (f : Frame) (r : Classification) (l : List Contact) (s : State) : (padGestures sf st f r l s).fault = s.fault := by cases sf <;> rfl
@[simp] theorem padGestures_wakeReported (sf : Surface) (st : FrameStart) (f : Frame) (r : Classification) (l : List Contact) (s : State) : (padGestures sf st f r l s).wakeReported = s.wakeReported := by cases sf <;> rfl
@[simp] theorem padGestures_area (sf : Surface) (st : FrameStart) (f : Frame) (r : Classification) (l : List Contact) (s : State) : (padGestures sf st f r l s).area = s.area := by cases sf <;> rfl
@[simp] theorem padGestures_readData (sf : Surface) (st : FrameStart) (f : Frame) (r : Classification) (l : List Contact) (s : State) : (padGestures sf st f r l s).readData = s.readData := by cases sf <;> rfl
@[simp] theorem padGestures_pending (sf : Surface) (st : FrameStart) (f : Frame) (r : Classification) (l : List Contact) (s : State) : (padGestures sf st f r l s).pending = s.pending := by cases sf <;> rfl

@[simp] theorem trackFrame_clock (sf : Surface) (st : FrameStart) (f : Frame) (s : State) : (trackFrame sf st f s).clock = s.clock := by simp [trackFrame]
@[simp] theorem trackFrame_latch (sf : Surface) (st : FrameStart) (f : Frame) (s : State) : (trackFrame sf st f s).latch = s.latch := by simp [trackFrame]
@[simp] theorem trackFrame_regs (sf : Surface) (st : FrameStart) (f : Frame) (s : State) : (trackFrame sf st f s).regs = s.regs := by simp [trackFrame]
@[simp] theorem trackFrame_suspension (sf : Surface) (st : FrameStart) (f : Frame) (s : State) : (trackFrame sf st f s).suspension = s.suspension := by simp [trackFrame]
@[simp] theorem trackFrame_pen (sf : Surface) (st : FrameStart) (f : Frame) (s : State) : (trackFrame sf st f s).pen = s.pen := by simp [trackFrame]
@[simp] theorem trackFrame_penOut (sf : Surface) (st : FrameStart) (f : Frame) (s : State) : (trackFrame sf st f s).penOut = s.penOut := by simp [trackFrame]
@[simp] theorem trackFrame_inputs (sf : Surface) (st : FrameStart) (f : Frame) (s : State) : (trackFrame sf st f s).inputs = s.inputs := by simp [trackFrame]
@[simp] theorem trackFrame_posture (sf : Surface) (st : FrameStart) (f : Frame) (s : State) : (trackFrame sf st f s).posture = s.posture := by simp [trackFrame]
@[simp] theorem trackFrame_command (sf : Surface) (st : FrameStart) (f : Frame) (s : State) : (trackFrame sf st f s).command = s.command := by simp [trackFrame]
@[simp] theorem trackFrame_fault (sf : Surface) (st : FrameStart) (f : Frame) (s : State) : (trackFrame sf st f s).fault = s.fault := by simp [trackFrame]
@[simp] theorem trackFrame_wakeReported (sf : Surface) (st : FrameStart) (f : Frame) (s : State) : (trackFrame sf st f s).wakeReported = s.wakeReported := by simp [trackFrame]
@[simp] theorem trackFrame_area (sf : Surface) (st : FrameStart) (f : Frame) (s : State) : (trackFrame sf st f s).area = s.area := by simp [trackFrame]
@[simp] theorem trackFrame_readData (sf : Surface) (st : FrameStart) (f : Frame) (s : State) : (trackFrame sf st f s).readData = s.readData := by simp [trackFrame]
@[simp] theorem trackFrame_pending (sf : Surface) (st : FrameStart) (f : Frame) (s : State) : (trackFrame sf st f s).pending = s.pending := by simp [trackFrame]

@[simp] theorem reportWake_clock (k n : Nat) (t : Time) (s : State) : (reportWake k n t s).clock = s.clock := by unfold reportWake; (repeat' split) <;> simp
@[simp] theorem reportWake_latch (k n : Nat) (t : Time) (s : State) : (reportWake k n t s).latch = s.latch := by unfold reportWake; (repeat' split) <;> simp
@[simp] theorem reportWake_pad (k n : Nat) (t : Time) (s : State) : (reportWake k n t s).pad = s.pad := by unfold reportWake; (repeat' split) <;> simp
@[simp] theorem reportWake_screen (k n : Nat) (t : Time) (s : State) : (reportWake k n t s).screen = s.screen := by unfold reportWake; (repeat' split) <;> simp
@[simp] theorem reportWake_suspension (k n : Nat) (t : Time) (s : State) : (reportWake k n t s).suspension = s.suspension := by unfold reportWake; (repeat' split) <;> simp
@[simp] theorem reportWake_gestures (k n : Nat) (t : Time) (s : State) : (reportWake k n t s).gestures = s.gestures := by unfold reportWake; (repeat' split) <;> simp
@[simp] theorem reportWake_pen (k n : Nat) (t : Time) (s : State) : (reportWake k n t s).pen = s.pen := by unfold reportWake; (repeat' split) <;> simp
@[simp] theorem reportWake_penOut (k n : Nat) (t : Time) (s : State) : (reportWake k n t s).penOut = s.penOut := by unfold reportWake; (repeat' split) <;> simp
@[simp] theorem reportWake_inputs (k n : Nat) (t : Time) (s : State) : (reportWake k n t s).inputs = s.inputs := by unfold reportWake; (repeat' split) <;> simp
@[simp] theorem reportWake_posture (k n : Nat) (t : Time) (s : State) : (reportWake k n t s).posture = s.posture := by unfold reportWake; (repeat' split) <;> simp
@[simp] theorem reportWake_command (k n : Nat) (t : Time) (s : State) : (reportWake k n t s).command = s.command := by unfold reportWake; (repeat' split) <;> simp
@[simp] theorem reportWake_fault (k n : Nat) (t : Time) (s : State) : (reportWake k n t s).fault = s.fault := by unfold reportWake; (repeat' split) <;> simp
@[simp] theorem reportWake_area (k n : Nat) (t : Time) (s : State) : (reportWake k n t s).area = s.area := by unfold reportWake; (repeat' split) <;> simp
@[simp] theorem reportWake_readData (k n : Nat) (t : Time) (s : State) : (reportWake k n t s).readData = s.readData := by unfold reportWake; (repeat' split) <;> simp
@[simp] theorem reportWake_pending (k n : Nat) (t : Time) (s : State) : (reportWake k n t s).pending = s.pending := by unfold reportWake; (repeat' split) <;> simp

@[simp] theorem countDropped_clock (sf : Surface) (n : Nat) (s : State) : (countDropped sf n s).clock = s.clock := by simp [countDropped]
@[simp] theorem countDropped_latch (sf : Surface) (n : Nat) (s : State) : (countDropped sf n s).latch = s.latch := by simp [countDropped]
@[simp] theorem countDropped_regs (sf : Surface) (n : Nat) (s : State) : (countDropped sf n s).regs = s.regs := by simp [countDropped]
@[simp] theorem countDropped_suspension (sf : Surface) (n : Nat) (s : State) : (countDropped sf n s).suspension = s.suspension := by simp [countDropped]
@[simp] theorem countDropped_gestures (sf : Surface) (n : Nat) (s : State) : (countDropped sf n s).gestures = s.gestures := by simp [countDropped]
@[simp] theorem countDropped_pen (sf : Surface) (n : Nat) (s : State) : (countDropped sf n s).pen = s.pen := by simp [countDropped]
@[simp] theorem countDropped_penOut (sf : Surface) (n : Nat) (s : State) : (countDropped sf n s).penOut = s.penOut := by simp [countDropped]
@[simp] theorem countDropped_events (sf : Surface) (n : Nat) (s : State) : (countDropped sf n s).events = s.events := by simp [countDropped]
@[simp] theorem countDropped_inputs (sf : Surface) (n : Nat) (s : State) : (countDropped sf n s).inputs = s.inputs := by simp [countDropped]
@[simp] theorem countDropped_posture (sf : Surface) (n : Nat) (s : State) : (countDropped sf n s).posture = s.posture := by simp [countDropped]
@[simp] theorem countDropped_command (sf : Surface) (n : Nat) (s : State) : (countDropped sf n s).command = s.command := by simp [countDropped]
@[simp] theorem countDropped_fault (sf : Surface) (n : Nat) (s : State) : (countDropped sf n s).fault = s.fault := by simp [countDropped]
@[simp] theorem countDropped_wakeReported (sf : Surface) (n : Nat) (s : State) : (countDropped sf n s).wakeReported = s.wakeReported := by simp [countDropped]
@[simp] theorem countDropped_area (sf : Surface) (n : Nat) (s : State) : (countDropped sf n s).area = s.area := by simp [countDropped]
@[simp] theorem countDropped_readData (sf : Surface) (n : Nat) (s : State) : (countDropped sf n s).readData = s.readData := by simp [countDropped]
@[simp] theorem countDropped_pending (sf : Surface) (n : Nat) (s : State) : (countDropped sf n s).pending = s.pending := by simp [countDropped]

@[simp] theorem watchFrame_clock (sf : Surface) (st : FrameStart) (f : Frame) (s : State) : (watchFrame sf st f s).clock = s.clock := by simp only [watchFrame]; (repeat' split) <;> simp
@[simp] theorem watchFrame_latch (sf : Surface) (st : FrameStart) (f : Frame) (s : State) : (watchFrame sf st f s).latch = s.latch := by simp only [watchFrame]; (repeat' split) <;> simp
@[simp] theorem watchFrame_suspension (sf : Surface) (st : FrameStart) (f : Frame) (s : State) : (watchFrame sf st f s).suspension = s.suspension := by simp only [watchFrame]; (repeat' split) <;> simp
@[simp] theorem watchFrame_gestures (sf : Surface) (st : FrameStart) (f : Frame) (s : State) : (watchFrame sf st f s).gestures = s.gestures := by simp only [watchFrame]; (repeat' split) <;> simp
@[simp] theorem watchFrame_pen (sf : Surface) (st : FrameStart) (f : Frame) (s : State) : (watchFrame sf st f s).pen = s.pen := by simp only [watchFrame]; (repeat' split) <;> simp
@[simp] theorem watchFrame_penOut (sf : Surface) (st : FrameStart) (f : Frame) (s : State) : (watchFrame sf st f s).penOut = s.penOut := by simp only [watchFrame]; (repeat' split) <;> simp
@[simp] theorem watchFrame_inputs (sf : Surface) (st : FrameStart) (f : Frame) (s : State) : (watchFrame sf st f s).inputs = s.inputs := by simp only [watchFrame]; (repeat' split) <;> simp
@[simp] theorem watchFrame_posture (sf : Surface) (st : FrameStart) (f : Frame) (s : State) : (watchFrame sf st f s).posture = s.posture := by simp only [watchFrame]; (repeat' split) <;> simp
@[simp] theorem watchFrame_command (sf : Surface) (st : FrameStart) (f : Frame) (s : State) : (watchFrame sf st f s).command = s.command := by simp only [watchFrame]; (repeat' split) <;> simp
@[simp] theorem watchFrame_fault (sf : Surface) (st : FrameStart) (f : Frame) (s : State) : (watchFrame sf st f s).fault = s.fault := by simp only [watchFrame]; (repeat' split) <;> simp
@[simp] theorem watchFrame_area (sf : Surface) (st : FrameStart) (f : Frame) (s : State) : (watchFrame sf st f s).area = s.area := by simp only [watchFrame]; (repeat' split) <;> simp
@[simp] theorem watchFrame_readData (sf : Surface) (st : FrameStart) (f : Frame) (s : State) : (watchFrame sf st f s).readData = s.readData := by simp only [watchFrame]; (repeat' split) <;> simp
@[simp] theorem watchFrame_pending (sf : Surface) (st : FrameStart) (f : Frame) (s : State) : (watchFrame sf st f s).pending = s.pending := by simp only [watchFrame]; (repeat' split) <;> simp

@[simp] theorem staleFrame_clock (sf : Surface) (st : FrameStart) (f : Frame) (s : State) : (staleFrame sf st f s).clock = s.clock := by simp [staleFrame]
@[simp] theorem staleFrame_latch (sf : Surface) (st : FrameStart) (f : Frame) (s : State) : (staleFrame sf st f s).latch = s.latch := by simp [staleFrame]
@[simp] theorem staleFrame_regs (sf : Surface) (st : FrameStart) (f : Frame) (s : State) : (staleFrame sf st f s).regs = s.regs := by simp [staleFrame]
@[simp] theorem staleFrame_suspension (sf : Surface) (st : FrameStart) (f : Frame) (s : State) : (staleFrame sf st f s).suspension = s.suspension := by simp [staleFrame]
@[simp] theorem staleFrame_gestures (sf : Surface) (st : FrameStart) (f : Frame) (s : State) : (staleFrame sf st f s).gestures = s.gestures := by simp [staleFrame]
@[simp] theorem staleFrame_pen (sf : Surface) (st : FrameStart) (f : Frame) (s : State) : (staleFrame sf st f s).pen = s.pen := by simp [staleFrame]
@[simp] theorem staleFrame_penOut (sf : Surface) (st : FrameStart) (f : Frame) (s : State) : (staleFrame sf st f s).penOut = s.penOut := by simp [staleFrame]
@[simp] theorem staleFrame_events (sf : Surface) (st : FrameStart) (f : Frame) (s : State) : (staleFrame sf st f s).events = s.events := by simp [staleFrame]
@[simp] theorem staleFrame_inputs (sf : Surface) (st : FrameStart) (f : Frame) (s : State) : (staleFrame sf st f s).inputs = s.inputs := by simp [staleFrame]
@[simp] theorem staleFrame_posture (sf : Surface) (st : FrameStart) (f : Frame) (s : State) : (staleFrame sf st f s).posture = s.posture := by simp [staleFrame]
@[simp] theorem staleFrame_command (sf : Surface) (st : FrameStart) (f : Frame) (s : State) : (staleFrame sf st f s).command = s.command := by simp [staleFrame]
@[simp] theorem staleFrame_fault (sf : Surface) (st : FrameStart) (f : Frame) (s : State) : (staleFrame sf st f s).fault = s.fault := by simp [staleFrame]
@[simp] theorem staleFrame_wakeReported (sf : Surface) (st : FrameStart) (f : Frame) (s : State) : (staleFrame sf st f s).wakeReported = s.wakeReported := by simp [staleFrame]
@[simp] theorem staleFrame_area (sf : Surface) (st : FrameStart) (f : Frame) (s : State) : (staleFrame sf st f s).area = s.area := by simp [staleFrame]
@[simp] theorem staleFrame_readData (sf : Surface) (st : FrameStart) (f : Frame) (s : State) : (staleFrame sf st f s).readData = s.readData := by simp [staleFrame]
@[simp] theorem staleFrame_pending (sf : Surface) (st : FrameStart) (f : Frame) (s : State) : (staleFrame sf st f s).pending = s.pending := by simp [staleFrame]

@[simp] theorem processFrame_clock (sf : Surface) (st : FrameStart) (f : Frame) (s : State) : (processFrame sf st f s).clock = s.clock := by unfold processFrame; (repeat' split) <;> simp
@[simp] theorem processFrame_latch (sf : Surface) (st : FrameStart) (f : Frame) (s : State) : (processFrame sf st f s).latch = s.latch := by unfold processFrame; (repeat' split) <;> simp
@[simp] theorem processFrame_suspension (sf : Surface) (st : FrameStart) (f : Frame) (s : State) : (processFrame sf st f s).suspension = s.suspension := by unfold processFrame; (repeat' split) <;> simp
@[simp] theorem processFrame_pen (sf : Surface) (st : FrameStart) (f : Frame) (s : State) : (processFrame sf st f s).pen = s.pen := by unfold processFrame; (repeat' split) <;> simp
@[simp] theorem processFrame_penOut (sf : Surface) (st : FrameStart) (f : Frame) (s : State) : (processFrame sf st f s).penOut = s.penOut := by unfold processFrame; (repeat' split) <;> simp
@[simp] theorem processFrame_inputs (sf : Surface) (st : FrameStart) (f : Frame) (s : State) : (processFrame sf st f s).inputs = s.inputs := by unfold processFrame; (repeat' split) <;> simp
@[simp] theorem processFrame_posture (sf : Surface) (st : FrameStart) (f : Frame) (s : State) : (processFrame sf st f s).posture = s.posture := by unfold processFrame; (repeat' split) <;> simp
@[simp] theorem processFrame_command (sf : Surface) (st : FrameStart) (f : Frame) (s : State) : (processFrame sf st f s).command = s.command := by unfold processFrame; (repeat' split) <;> simp
@[simp] theorem processFrame_fault (sf : Surface) (st : FrameStart) (f : Frame) (s : State) : (processFrame sf st f s).fault = s.fault := by unfold processFrame; (repeat' split) <;> simp
@[simp] theorem processFrame_area (sf : Surface) (st : FrameStart) (f : Frame) (s : State) : (processFrame sf st f s).area = s.area := by unfold processFrame; (repeat' split) <;> simp
@[simp] theorem processFrame_readData (sf : Surface) (st : FrameStart) (f : Frame) (s : State) : (processFrame sf st f s).readData = s.readData := by unfold processFrame; (repeat' split) <;> simp
@[simp] theorem processFrame_pending (sf : Surface) (st : FrameStart) (f : Frame) (s : State) : (processFrame sf st f s).pending = s.pending := by unfold processFrame; (repeat' split) <;> simp

/-- Whether a begun frame may end: not while a handover of its surface waits, if it is to be tracked (R180). -/
theorem mayEnd_iff (u : SurfaceUnit) (st : FrameStart) :
    mayEnd u st = true ↔ (st.work = .track → u.publisher.handed = []) := by
  simp [mayEnd, imp_iff_not_or]

/-- The end of a frame's processing, where the frame may end. -/
theorem frameProcessingEnd_of_mayEnd {sf : Surface} {s : State} {f : Frame} {st : FrameStart} (h : isRunning s = true)
    (hp : (surfaceOf s sf).processing = some { frame := f, start := some st }) (hm : mayEnd (surfaceOf s sf) st = true) :
    execFrameProcessingEnd sf s = .next (drainEvents (updateSurface (processFrame sf st f s) sf nextFrame)) := by
  simp [execFrameProcessingEnd, h, hp, hm]

/-- The end of a frame's processing changes nothing where the frame may not end. -/
theorem frameProcessingEnd_of_not_mayEnd {sf : Surface} {s : State} {f : Frame} {st : FrameStart}
    (hp : (surfaceOf s sf).processing = some { frame := f, start := some st }) (hm : mayEnd (surfaceOf s sf) st = false) :
    execFrameProcessingEnd sf s = .next s := by
  simp [execFrameProcessingEnd, hp, hm]

end Sys2Proof.Machine
end

