-- ==== Sys2Proof/Laws/Memory.lean ====
section
/-! SUPPORT. The memory image: a read after a write, and the canonical form kept by every write. -/

set_option Elab.async false  -- many small theorems: one at a time, so that threads stay few

namespace Sys2Proof.Machine

/-- A byte read at the address just written is the byte written. -/
theorem readByte_writeByte_same (m : List Host.Cell) (a : Nat) (b : Byte) :
    readByte (writeByte m (a, b)) a = some b := by
  induction m with
  | nil => simp [writeByte, readByte]
  | cons d m ih =>
    obtain ⟨k, v⟩ := d
    simp only [writeByte]
    split
    · simp [readByte]
    · split
      · simp [readByte]
      · rename_i h
        simp only [readByte, if_neg (fun e : k = a => h e.symm), ih]

/-- A write leaves the byte read at every other address. -/
theorem readByte_writeByte_other (m : List Host.Cell) (a k : Nat) (b : Byte) (h : k ≠ a) :
    readByte (writeByte m (a, b)) k = readByte m k := by
  induction m with
  | nil => simp [writeByte, readByte, Ne.symm h]
  | cons d m ih =>
    obtain ⟨j, v⟩ := d
    simp only [writeByte]
    split
    · simp [readByte, Ne.symm h]
    · split
      · rename_i e; subst e; simp [readByte, Ne.symm h]
      · simp only [readByte, ih]

/-- A list of writes leaves the byte read at every address it does not write. -/
theorem readByte_writeBytes_other (cells m : List Host.Cell) (k : Nat) (h : ∀ c ∈ cells, c.1 ≠ k) :
    readByte (writeBytes m cells) k = readByte m k := by
  induction cells generalizing m with
  | nil => rfl
  | cons c cs ih =>
    have hc : k ≠ c.1 := Ne.symm (h c (by simp))
    simpa [writeBytes, readByte_writeByte_other m c.1 k c.2 hc] using
      ih (writeByte m c) (fun d hd => h d (by simp [hd]))

/-- Writes at addresses all different read back as they were written. -/
theorem readByte_writeBytes_mem (cells m : List Host.Cell) (h : (cells.map fun c => c.1).Nodup) :
    ∀ c ∈ cells, readByte (writeBytes m cells) c.1 = some c.2 := by
  induction cells generalizing m with
  | nil => simp
  | cons d cs ih =>
    simp only [List.map_cons, List.nodup_cons, List.mem_map, not_exists, not_and] at h
    intro c hc
    rcases List.mem_cons.1 hc with rfl | hc
    · show readByte (writeBytes (writeByte m c) cs) c.1 = _
      rw [readByte_writeBytes_other _ _ _ (fun x hx => h.1 x hx)]
      exact readByte_writeByte_same m c.1 c.2
    · exact ih (writeByte m d) h.2 c hc

/-- Area offsets less than 2^64 apart have different host addresses. -/
theorem hostAddress_inj (r : Registers) {a b : Nat} (h : hostAddress r a = hostAddress r b) (ha : a ≤ b)
    (hb : b < a + 2 ^ 64) : a = b := by
  simp only [hostAddress, areaBase, BitVec.toNat_add, BitVec.toNat_ofNat] at h
  have := (r.areaHi ++ r.areaLo : BitVec 64).isLt
  omega

/-- The bytes of a record one after the other are the bytes of its parts. -/
theorem cellsAt_append (r : Registers) (offset : Nat) (a b : List Byte) :
    cellsAt r offset (a ++ b) = cellsAt r offset a ++ cellsAt r (offset + a.length) b := by
  apply List.ext_getElem
  · simp [cellsAt]
  · intro i h1 h2
    simp only [cellsAt, List.getElem_map, List.getElem_zipIdx, List.getElem_append]
    simp only [List.length_map, List.length_zipIdx]
    split
    · rfl
    · congr 2; omega

/-- The bytes of a record stand at addresses all different. -/
theorem cellsAt_nodup (r : Registers) (offset : Nat) (l : List Byte) (h : l.length ≤ 16384) :
    ((cellsAt r offset l).map fun c => c.1).Nodup := by
  have e : (cellsAt r offset l).map (fun c => c.1) = (List.range l.length).map fun i => hostAddress r (offset + i) := by
    apply List.ext_getElem
    · simp [cellsAt]
    · intro i h1 h2
      simp only [cellsAt, List.getElem_map, List.getElem_zipIdx, List.getElem_range, Nat.zero_add]
  rw [e, List.Nodup, List.pairwise_map]
  refine List.Pairwise.imp_of_mem ?_ List.pairwise_lt_range
  intro a b ha hb hab eq
  simp only [List.mem_range] at ha hb
  have := hostAddress_inj r eq (by omega) (by omega)
  omega

/-- After a write every address is an old one or the one written. -/
theorem mem_writeByte {m : List Host.Cell} {c d : Host.Cell} (h : d ∈ writeByte m c) : d = c ∨ d ∈ m := by
  induction m with
  | nil => simpa [writeByte] using h
  | cons e m ih =>
    simp only [writeByte] at h
    split at h
    · simpa using h
    · split at h
      · rcases List.mem_cons.1 h with h | h
        · exact .inl h
        · exact .inr (by simp [h])
      · rcases List.mem_cons.1 h with h | h
        · exact .inr (by simp [h])
        · rcases ih h with h | h
          · exact .inl h
          · exact .inr (by simp [h])

/-- A write keeps the canonical form. -/
theorem writeByte_wf {m : List Host.Cell} (c : Host.Cell) (h : Memory.wf m = true) :
    Memory.wf (writeByte m c) = true := by
  induction m with
  | nil => simp [writeByte, Memory.wf]
  | cons e m ih =>
    simp only [Memory.wf, Bool.and_eq_true, List.all_eq_true, decide_eq_true_eq] at h
    simp only [writeByte]
    split
    · rename_i hc
      simp only [Memory.wf, Bool.and_eq_true, List.all_eq_true, decide_eq_true_eq]
      refine ⟨fun d hd => ?_, h.1, h.2⟩
      rcases List.mem_cons.1 hd with rfl | hd
      · exact hc
      · exact Nat.lt_trans hc (h.1 d hd)
    · rename_i hc
      split
      · rename_i he
        simp only [Memory.wf, Bool.and_eq_true, List.all_eq_true, decide_eq_true_eq]
        exact ⟨fun d hd => he ▸ h.1 d hd, h.2⟩
      · rename_i he
        simp only [Memory.wf, Bool.and_eq_true, List.all_eq_true, decide_eq_true_eq]
        refine ⟨fun d hd => ?_, ih h.2⟩
        rcases mem_writeByte hd with rfl | hd
        · omega
        · exact h.1 d hd

/-- A list of writes keeps the canonical form. -/
theorem writeBytes_wf {m : List Host.Cell} (cells : List Host.Cell) (h : Memory.wf m = true) :
    Memory.wf (writeBytes m cells) = true := by
  induction cells generalizing m with
  | nil => exact h
  | cons c cs ih => exact ih (writeByte_wf c h)

/-- The reset state's memory image is in canonical form. -/
theorem reset_area_wf : Memory.wf State.reset.area = true := rfl

end Sys2Proof.Machine
end

