-- ==== Sys2Proof/Laws/Operations.lean ====
section
/-! SUPPORT. What the shared operations do: one lemma per operation. -/

set_option Elab.async false  -- many small theorems: one at a time, so that threads stay few

namespace Sys2Proof.Machine

/-! ### Surfaces -/

@[simp] theorem surfaceOf_pad (s : State) : surfaceOf s .pad = s.pad := rfl
@[simp] theorem surfaceOf_screen (s : State) : surfaceOf s .screen = s.screen := rfl
@[simp] theorem surfaceOf_withSurface_same (s : State) (sf : Surface) (u : SurfaceUnit) :
    surfaceOf (withSurface s sf u) sf = u := by cases sf <;> rfl
@[simp] theorem withSurface_pad_pad (s : State) (u : SurfaceUnit) : (withSurface s .pad u).pad = u := rfl
@[simp] theorem withSurface_pad_screen (s : State) (u : SurfaceUnit) : (withSurface s .pad u).screen = s.screen := rfl
@[simp] theorem withSurface_screen_pad (s : State) (u : SurfaceUnit) : (withSurface s .screen u).pad = s.pad := rfl
@[simp] theorem withSurface_screen_screen (s : State) (u : SurfaceUnit) : (withSurface s .screen u).screen = u := rfl

/-! ### The memory image -/

@[simp] theorem putCells_area (s : State) (l : List Host.Cell) : (putCells s l).area = writeBytes s.area l := rfl

/-- Bytes written keep the image canonical. -/
theorem putCells_wf {s : State} (l : List Host.Cell) (h : Memory.wf s.area = true) :
    Memory.wf (putCells s l).area = true := writeBytes_wf l h

/-- The acknowledgement of TAKEN keeps the image canonical. -/
theorem ackTaken_wf {s : State} (f : InFlight) (h : Memory.wf s.area = true) :
    Memory.wf (ackTaken f s).area = true := by
  unfold ackTaken; split
  · exact h
  · exact putCells_wf _ h

/-- Showing TAKEN of the command in flight keeps the image canonical. -/
theorem showTaken_wf {s : State} (h : Memory.wf s.area = true) : Memory.wf (showTaken s).area = true := by
  unfold showTaken; split
  · exact ackTaken_wf _ h
  · exact h

/-- The entry into HALTED keeps the image canonical. -/
theorem enterHalted_wf {s : State} (h : Memory.wf s.area = true) : Memory.wf (enterHalted s).area = true :=
  showTaken_wf h

/-- A command's result keeps the image canonical. -/
theorem finish_wf {s : State} (r d : Nat) (l : List Byte) (f : InFlight) (h : Memory.wf s.area = true) :
    Memory.wf (finish r d l f s).area = true := ackTaken_wf f h

/-! ### Causes, fences, reports -/

@[simp] theorem setCause_causes (s : State) (c : Cause) :
    (setCause s c).regs.causes = s.regs.causes ||| causeBit c := rfl
@[simp] theorem setCause_runState (s : State) (c : Cause) : (setCause s c).regs.state = s.regs.state := rfl
@[simp] theorem setCause_fenced (s : State) (c : Cause) : (setCause s c).regs.fenced = s.regs.fenced := rfl
@[simp] theorem fence_fenced (s : State) (t : Stream) : (fence s t).regs.fenced = setFence s.regs.fenced t := rfl
@[simp] theorem fence_runState (s : State) (t : Stream) : (fence s t).regs.state = s.regs.state := rfl
@[simp] theorem isFenced_setFence_same (f : Fences) (t : Stream) : isFenced (setFence f t) t = true := by
  cases t <;> rfl

/-- A fence leaves every other stream as it is. -/
theorem isFenced_setFence_other (f : Fences) (t u : Stream) (h : u ≠ t) :
    isFenced (setFence f t) u = isFenced f u := by
  cases t <;> cases u <;> first | rfl | exact absurd rfl h

/-- What a report leaves in the Fault Unit (R196): the first failure is stored with count 0, a later
one raises the count; the record state stays. -/
theorem report_fault (s : State) (t : Stream) (w : Bool) (o : Nat) :
    (report s t w o).fault.written = s.fault.written ∧
    (report s t w o).fault.write.isSome = true ∧
    (s.fault.stored = none →
      (report s t w o).fault.stored = some { stream := t, write := w, offset := o, time := s.clock } ∧
      (report s t w o).fault.later = 0) ∧
    (∀ x, s.fault.stored = some x →
      (report s t w o).fault.stored = some x ∧ (report s t w o).fault.later = satAdd 255 s.fault.later 1) := by
  rcases hs : s.fault.stored with _ | x <;> rcases hw : s.fault.write with _ | y <;>
    simp [report, queueRecordWrite, startRecordWrite, hs, hw]

/-! ### The Publisher -/

/-- Holding an event keeps the queue within its capacity (R183, R184). -/
theorem holdEvent_length (e : Event) (p : EventPublisher) (h : p.queue.length ≤ queueLimit) :
    (holdEvent e p).queue.length ≤ queueLimit := by
  have hd : ∀ l : List Event, l ≠ [] → (discardOne l).length + 1 ≤ l.length := by
    intro l hl
    unfold discardOne
    split
    · rename_i ha
      clear hl
      induction l with
      | nil => simp at ha
      | cons a l ih =>
        simp only [discardStep]
        split
        · simp
        · rename_i hk
          have : (l.any fun e => e.kind == .gestureStep) = true := by simpa [hk] using ha
          simpa using ih this
    · cases l with
      | nil => exact absurd rfl hl
      | cons a l => simp
  unfold holdEvent
  split
  · rename_i y hy
    have hne : p.queue ≠ [] := by rintro h0; simp [h0] at hy
    split
    · have := List.length_pos_of_ne_nil hne
      simp only [List.length_append, List.length_dropLast, List.length_singleton]; omega
    · split
      · simp only [List.length_append, List.length_singleton]; omega
      · have := hd p.queue hne
        simp only [List.length_append, List.length_singleton]; omega
  · simp [queueLimit]

/-- Holding the new event of an access keeps the queue within its capacity. -/
theorem holdFresh_length (x : Option Event) (p : EventPublisher) (h : p.queue.length ≤ queueLimit) :
    (holdFresh x p).queue.length ≤ queueLimit := by
  cases x with
  | none => exact h
  | some e => exact holdEvent_length e p h

/-- Taking what was handed over changes neither the write position nor the bound of the queue. -/
theorem runEvents_spec (fenced : Bool) (now : Time) (l : List (Option Event)) (p : EventPublisher) :
    (runEvents fenced now l p).position = p.position ∧
    (p.queue.length ≤ queueLimit → (runEvents fenced now l p).queue.length ≤ queueLimit) := by
  have hf : ∀ (x : Option Event) (q : EventPublisher), (holdFresh x q).position = q.position := by
    intro x q
    cases x with
    | none => rfl
    | some e => simp only [holdFresh, holdEvent]; (repeat' split) <;> rfl
  induction l generalizing p with
  | nil => exact ⟨rfl, id⟩
  | cons x xs ih =>
    simp only [runEvents]
    split
    · split
      · exact ⟨(ih _).1.trans (hf x p), fun h => (ih _).2 (holdFresh_length x p h)⟩
      · split
        · exact ih p
        · exact ih _
    · exact ⟨rfl, id⟩

/-- Taking handovers never changes a surface's frame count or publish index (R178). -/
theorem runFrames_spec (sf : Surface) (fenced : Bool) (now : Time) (c : BitVec 32) (l : List Handover)
    (p : FramePublisher) :
    (runFrames sf fenced now c l p).count = p.count ∧ (runFrames sf fenced now c l p).index = p.index := by
  induction l generalizing p with
  | nil => exact ⟨rfl, rfl⟩
  | cons h hs ih =>
    simp only [runFrames]
    split
    · exact ih _
    · exact ⟨rfl, rfl⟩

/-- Taking samples never changes the pen publish index (R181). -/
theorem runSamples_index (fenced : Bool) (now : Time) (l : List PenSample) (p : PenPublisher) :
    (runSamples fenced now l p).index = p.index := by
  induction l generalizing p with
  | nil => rfl
  | cons q qs ih =>
    simp only [runSamples]
    split
    · exact ih _
    · rfl

/-- A surface's unit after a handover: only its Publisher state changes. -/
theorem handFrame_surface (s : State) (sf : Surface) (h : Handover) :
    surfaceOf (handFrame s sf h) sf =
      { surfaceOf s sf with publisher := (surfaceOf (handFrame s sf h) sf).publisher } := by
  cases sf <;> rfl

/-- A surface's unit after its frame access has ended: only its Publisher state changes. -/
theorem resumeFrames_surface (s : State) (sf : Surface) :
    surfaceOf (resumeFrames s sf) sf =
      { surfaceOf s sf with publisher := (surfaceOf (resumeFrames s sf) sf).publisher } := by
  cases sf <;> rfl

/-! ### The Command Unit -/

/-- An event of the command in flight either finds it so, or changes nothing. -/
theorem perform_cases (kind : Nat) (body : InFlight → State → State) (s : State) :
    (∃ f, s.command.inFlight = some f ∧ f.phase = .performing ∧ recordKind f.record = kind ∧
      perform kind body s = body f s) ∨ perform kind body s = s := by
  unfold perform performing
  rcases hf : s.command.inFlight with _ | f
  · exact .inr rfl
  · by_cases hp : f.phase = .performing ∧ recordKind f.record = kind
    · exact .inl ⟨f, rfl, hp.1, hp.2, by simp [hp]⟩
    · exact .inr (by simp [hp])

/-- The command found in flight is performed. -/
theorem perform_of_inFlight {kind : Nat} (body : InFlight → State → State) {s : State} {f : InFlight}
    (hf : s.command.inFlight = some f) (hp : f.phase = .performing) (hk : recordKind f.record = kind) :
    perform kind body s = body f s := by
  simp [perform, performing, hf, hp, hk]

/-- The command in flight once its result is known (R171). -/
theorem finish_inFlight (r d : Nat) (l : List Byte) (f : InFlight) (s : State) :
    (finish r d l f s).command.inFlight = some { f with taken := true, phase := .finishing r d l } := rfl

end Sys2Proof.Machine
end

