-- ==== Sys2Proof/Tests/Slice0.lean ====
section
/-! SUPPORT. The model's own tests: the WellFormed smoke, one or two steps per command on small
states with results taken from the rules and worked examples of spec/, and a witness for every
obligation that has hypotheses. -/

set_option Elab.async false  -- many small theorems: one at a time, so that threads stay few

namespace Sys2Proof.Tests

open Sys2Proof Sys2Proof.Machine

/-! ### WellFormed: an ill-formed term for each check -/

theorem test_wf_register_between_words : (Instr.registerWrite 0x06 0).wellFormed = false := by decide +kernel
theorem test_wf_register_past_window : (Instr.registerWrite 0x1C 0).wellFormed = false := by decide +kernel
theorem test_wf_register_last : (Instr.registerWrite 0x18 0).wellFormed = true := by decide +kernel
theorem test_wf_list_too_long : (Instr.loadBank (List.replicate 122 0)).wellFormed = false := by decide +kernel
theorem test_wf_zones_too_many : (Instr.loadZones (List.replicate 17 0)).wellFormed = false := by decide +kernel
theorem test_wf_failure_outside_area : (Instr.accessFailure .eventWrite 0x4000).wellFormed = false := by decide +kernel
theorem test_wf_timeout_of_write : (Instr.readTimeout .eventWrite 0x800).wellFormed = false := by decide +kernel
theorem test_wf_timeout_outside_area : (Instr.readTimeout .eventKindRead 0x4000).wellFormed = false := by decide +kernel
/-- No row of the opcode table has bits. -/
theorem test_decode_no_word : decodeTableWord 8 0 = none := rfl

/-! ### Small states -/

/-- The state a command leaves. -/
def after (c : Instr) (s : State) : State :=
  match exec c s with
  | .next t => t
  | .fault _ => s
  | .refused _ => s

/-- RUNNING with the exchange area at 1_0001_0000H (R163) and every cause unmasked. -/
def running : State :=
  { State.reset with
    regs := { resetRegisters with run := true, state := .running, mask := 0x7F, areaLo := 0x10000, areaHi := 1 } }

/-- OFF with an accepted base. -/
def ready : State := { State.reset with regs := { resetRegisters with areaLo := 0x10000, areaHi := 1 } }

/-- A link record of the pen with a pressure. -/
def penAt (pressure : BitVec 12) (inRange : Bool) : PenRecord where
  length := .exact
  checkOk := true
  x := 30000
  y := 20000
  pressure := pressure
  tiltX := 0
  tiltY := 0
  hover := 10
  inRange := inRange
  tool := .pen
  button1 := false
  button2 := false

/-- RUNNING with the screen ACTIVE and the Pen Channel open. -/
def drawing : State :=
  { running with
    screen := { resetSurface with state := .active }
    pen := { resetPen with isOpen := true } }

/-- The pen in TOUCH, its button 1 held. -/
def touching : State :=
  { drawing with
    pen := { resetPen with isOpen := true, state := .touch, guardOn := true, button1 := true, timeout := some 0, count := 1 } }

/-- A command record: POSTED, a kind, argument bytes 4 and 5, and the offset 2000H. -/
def posted (kind a b : Nat) : BitVec 512 := BitVec.ofNat 512 (1 + 2 ^ 8 * kind + 2 ^ 32 * a + 2 ^ 40 * b + 2 ^ 64 * 0x2000)

/-- A command being performed from record 1. -/
def flight (record : BitVec 512) : InFlight where
  index := 1
  record := record
  phase := .performing
  taken := false
  snapshot := []
  fenceAfter := false
  since := 0

/-- RUNNING with a command in flight in a pass at record 1. -/
def commanded (record : BitVec 512) : State :=
  { running with
    command := { resetCommand with
      pass := some { index := 1, examined := 1, last := none, since := 0 }, inFlight := some (flight record) } }

/-- A short frame of given cells. -/
def frameOf (cells : List Int) : Frame := { number := 7, time := 0, cells := cells, gap := false }

/-- RUNNING, a frame of a surface waiting to begin, in a surface state. -/
def waitingToBegin (sf : Surface) (st : SurfaceState) (settle : Nat) : State :=
  withSurface running sf
    { resetSurface with state := st, settle := settle, processing := some { frame := frameOf [], start := none } }

/-- A frame start left with a frame. -/
def startedAs (work : FrameWork) (enable : Bool) : FrameStart where
  snap := { bank := .a, active := true, values := defaultBank }
  view := { padView State.reset with enable := enable }
  work := work
  zones := { count := 1, places := [some { x0 := 0, y0 := 0, x1 := 4095, y1 := 2496
                                           flags := { noZoneFlags with wake := true } }] }

/-- A pad frame in processing. -/
def processing (work : FrameWork) (enable : Bool) (cells : List Int) : State :=
  { running with pad := { resetSurface with
      state := .active, processing := some { frame := frameOf cells, start := some (startedAs work enable) } } }

/-- A contact of a slot. -/
def contactAt (slot : Nat) (cls : Machine.Class) : Contact :=
  { newContact defaultPad emptyZones 0 slot (slot + 1) 0 (blobOf 22 14 true [{ col := 10, row := 5, value := 400 }]) with
    cls := cls, state := .held, sinceConfirm := some 1 }

/-! ### Frame links (R1, Table 1-2 and its worked sequence) -/

theorem test_start_in_open_counts_short :
    let s := { running with pad := { resetSurface with state := .active, decoder := .opened 18 [0, 0] } }
    (after (.startWord .pad 19) s).pad.counters.short = 1 ∧ (after (.startWord .pad 19) s).pad.decoder = .opened 19 [] := by
  decide +kernel
theorem test_cell_beyond_frame_counts_long :
    let s := { running with pad := { resetSurface with state := .active, decoder := .opened 19 (List.replicate 308 0) } }
    (after (.cellWord .pad 0) s).pad.counters.long = 1 ∧ (after (.cellWord .pad 0) s).pad.decoder = .skipping := by decide +kernel
theorem test_cell_word_is_signed :
    (after (.cellWord .pad 0x1FFF) { running with pad := { resetSurface with decoder := .opened 0 [] } }).pad.decoder =
      .opened 0 [-1] := by decide +kernel
/-- Frame 21 after frame 17 has a gap (R5). -/
theorem test_end_marks_gap :
    let s := { running with pad := { resetSurface with
      state := .active, lastNumber := some 17, decoder := .opened 21 (List.replicate 308 0) } }
    (after (.endWord .pad) s).pad.counters.gap = 1 ∧ (after (.endWord .pad) s).pad.lastNumber = some 21 := by decide +kernel

/-! ### Frames -/

/-- The second blob of section 1.6's worked case: centroid and flatness. -/
theorem test_blob_record :
    (let b := blobOf 22 14 true [⟨10, 5, 400⟩, ⟨11, 5, 200⟩, ⟨10, 6, 160⟩]
     (b.area, b.signal, b.peak, b.sumW, b.flat)) = (3, 760, 400, 225600, 134) := by decide +kernel
/-- A settling surface becomes ACTIVE at the fifth frame with settle_frames 4 (R11). -/
theorem test_frame_start_activates : (after (.frameStart .pad) (waitingToBegin .pad .settling 4)).pad.state = .active := by decide +kernel
theorem test_processing_end_creates_contact :
    (after (.frameProcessingEnd .pad) (processing .track true (List.replicate 120 0 ++ [400]))).pad.table.map
      (fun k => (k.id, k.slot, k.cls, k.state, k.centroid)) =
      [(1, 0, .undecided, .fresh, ⟨2560, 1280⟩)] := by decide +kernel
/-- Mapping to output units with the pad's default gains (Table 2-1). -/
theorem test_mapping : (mapPoint defaultPad.mapping ⟨2560, 1280⟩).1 = ⟨1950, 960⟩ := by decide +kernel
/-- Smoothing truncates toward zero and holds within the deadband (R36). -/
theorem test_smoothing : smoothAxis 192 2 2160 2169 = 2163 ∧ smoothAxis 192 2 2166 2163 = 2165 ∧ smoothAxis 192 2 2165 2163 = 2163 := by
  decide +kernel

/-! ### Pen (the worked stroke of chapter 5: tip_on 40, tip_off 25) -/

theorem test_pen_enters_hover :
    (after (.penRecord (penAt 35 true)) drawing).pen.state = .hover ∧
      (after (.penRecord (penAt 35 true)) drawing).pen.count = 1 := by decide +kernel
theorem test_pen_keeps_touch_above_tip_off : (after (.penRecord (penAt 30 true)) touching).pen.state = .touch := by decide +kernel
theorem test_pen_timeout : (after .penTimeoutExpiry touching).pen.timeouts = 1 := by decide +kernel
theorem test_linger_ends :
    (after .lingerExpiry { drawing with pen := { drawing.pen with state := .linger, linger := some 0, guardOn := true } }).pen.state =
      .away := by decide +kernel

/-! ### Deadlines, Clock, KEYACT -/

theorem test_clock_wraps : (after .clockTick { running with clock := 0xFFFFFFFFFFFF }).clock = 0 := by decide +kernel
theorem test_clock_lo_latches :
    (after .clockLoRead { running with clock := 0x123456789ABC }).latch = 0x1234 ∧
      (after .clockLoRead { running with clock := 0x123456789ABC }).readData = 0x56789ABC := by decide +kernel
theorem test_keyact_rising : (after .keyactRisingEdge running).inputs.typing = some 300000 := by decide +kernel
theorem test_keyact_falling :
    (after .keyactFallingEdge { running with inputs := { level := true, typing := some 9 } }).inputs =
      { level := false, typing := some 9 } := by decide +kernel
theorem test_typing_expiry_early :
    (after .typingGuardExpiry { running with inputs := { level := true, typing := some 9 } }).inputs.typing = some 9 := by decide +kernel
theorem test_pending_tap_published :
    let s := { running with gestures := { emptyGestures 3 with
      tap := some { fingers := 1, pos := ⟨10, 20⟩, lift := 0, deadline := 0 } } }
    (after .pendingTapExpiry s).gestures.tap = none := by decide +kernel
theorem test_drag_lock_ends :
    let s := { running with gestures := { emptyGestures 3 with
      service := some { gesture := .drag, inst := 3, members := [], lastSpan := 0, steps := 2, lock := some 0 } } }
    (after .dragLockExpiry s).gestures.service = none := by decide +kernel

/-! ### Registers and run control -/

theorem test_reset_line_keeps_clock_and_base :
    (after (.resetLine true) { running with clock := 77 }).clock = 77 ∧
      (after (.resetLine true) { running with clock := 77 }).regs.areaHi = 1 ∧
      (after (.resetLine true) { running with clock := 77 }).inputs.level = true := by decide +kernel
theorem test_power_on_clears_clock : (after (.powerOnReset false) { running with clock := 77 }).clock = 0 := by decide +kernel
theorem test_run_set_starts : (after .runSet ready).regs.state = .running ∧ (after .runSet ready).pad.state = .settling := by decide +kernel
theorem test_run_set_refused : (after .runSet State.reset).regs.areaInvalid = true := by decide +kernel
theorem test_run_clear_begins_stop : (after .runClear running).regs.stopping = true := by decide +kernel
theorem test_stop_end :
    (after .stopEnd { running with regs := { running.regs with run := false, stopping := true } }).regs.state = .off := by decide +kernel
theorem test_notice_begins_pass : ((after .notice running).command.pass.map (·.index)) = some 0 := by decide +kernel
theorem test_mask_write : (after (.attnMaskWrite 0x05) running).regs.mask = 0x05 := by decide +kernel
theorem test_status_write_clears :
    (after (.statusCauseClear 0x0100) { running with regs := { running.regs with causes := 0x03 } }).regs.causes = 0x02 := by decide +kernel
theorem test_fault_clear_reopens :
    (after .faultClear { running with regs := { running.regs with causes := 0x40, fenced := { noFences with pen := true } } }).regs.fenced =
      noFences := by decide +kernel
theorem test_control_write_starts :
    (after (.registerWrite 0x04 0x7F01) ready).regs.state = .running ∧ (after (.registerWrite 0x04 0x7F01) ready).regs.mask = 0x7F := by
  decide +kernel
theorem test_ident_reads : readRegister running 0x00 = 0x47246001 := by decide +kernel

/-! ### The command list -/

theorem test_examination_unknown_kind :
    ((after (.commandExamination (posted 12 0 0)) { commanded 0 with command := { (commanded 0).command with inFlight := none } }).command.inFlight.map
      (·.phase)) = some (.finishing 16 0 (List.replicate 32 0)) := by decide +kernel
theorem test_load_bank_clamps :
    (let s := after (.loadBank [1, 0x0000000900000082]) (commanded (posted 1 0 0))
     (s.posture.bankA.padOnly.gestureFloor, s.posture.bankB.padOnly.gestureFloor)) = (6, 0) := by decide +kernel
theorem test_load_zones_one :
    (after (.loadZones [0x09C00FFF0000000000000001]) (commanded (posted 2 0 1))).pad.zones.places.head? =
      some (some { x0 := 0, y0 := 0, x1 := 4095, y1 := 2496, flags := noZoneFlags }) := by decide +kernel
theorem test_set_posture_map :
    (after .setPostureMap (commanded (posted 3 1 1))).posture.map.laptop =
      { bank := .b, padActive := true, screenActive := false } := by decide +kernel
theorem test_set_posture : (after .setPosture (commanded (posted 4 3 0))).posture.posture = .tablet := by decide +kernel
theorem test_set_surface_off : (after .setSurface (commanded (posted 5 0 0))).pad.enable = false := by decide +kernel
theorem test_set_hand : (after .setHand (commanded (posted 6 1 0))).posture.hand = .left := by decide +kernel
theorem test_set_publish : (after .setPublish (commanded (posted 7 1 1))).posture.bankB.shared.publishPalms = true := by decide +kernel
theorem test_clear_tracking : (after .clearTracking (commanded (posted 8 1 0))).screen.clearReq = true := by decide +kernel
theorem test_sleep :
    (after .sleep { commanded (posted 9 0 0) with pad := { resetSurface with state := .active } }).pad.state = .watch := by decide +kernel
theorem test_wake :
    (after .wake { commanded (posted 10 0 0) with
      regs := { running.regs with state := .doze }, pad := { resetSurface with state := .watch } }).pad.state = .settling := by decide +kernel
theorem test_snapshot_ok :
    ((after .snapshot (commanded (posted 11 0 0))).command.inFlight.map fun f => f.snapshot.length) = some 128 := by decide +kernel
theorem test_completion_writes_done :
    let f : InFlight := { flight (posted 6 1 0) with taken := true, phase := .finishing 0 0 (List.replicate 32 0) }
    let s := after .commandCompletion { commanded 0 with command := { (commanded 0).command with inFlight := some f } }
    readByte s.area 0x100010040 = some 3 ∧ s.regs.causes = 0x10 := by decide +kernel

/-! ### Slots, records and failures -/

/-- An empty pad frame on offer. -/
def offered : State :=
  { running with pad := { resetSurface with publisher := { resetFramePublisher with
      pending := some { entries := [], time := 5, bank := .a, flags := noFrameFlags, merged := 0 }
      access := .reading 0 } } }

theorem test_full_frame_slot_stays_pending :
    (after (.frameSlotStateRead .pad 1) offered).pad.publisher.access = .none ∧
      (after (.frameSlotStateRead .pad 1) offered).pad.publisher.pending.isSome = true := by decide +kernel
theorem test_frame_published :
    (let s := after (.frameSlotPublished .pad) (after (.frameSlotStateRead .pad 0) offered)
     (readByte s.area 0x100011000, s.pad.publisher.index, s.pad.publisher.count, s.regs.causes)) = (some 1, 1, 1, 1) := by decide +kernel
theorem test_pen_published :
    (let s := after .penSlotPublished { running with penOut := { resetPenPublisher with index := 7, access := .writing [(9, 1)] } }
     (s.penOut.index, s.regs.causes, readByte s.area 9)) = (0, 4, some 1) := by decide +kernel
theorem test_pen_slot_read_full :
    (after (.penSlotStateRead 1) { running with penOut := { resetPenPublisher with access := .reading 0 } }).penOut.access = .reading 0 := by
  decide +kernel

/-- A WAKE event on offer. -/
def noting : State :=
  { running with events := { resetEventPublisher with access := .reading (some (wakeEvent 2 0 0)) 0 } }

theorem test_event_held_while_full : (after (.eventKindRead 4) noting).events.queue = [wakeEvent 2 0 0] := by decide +kernel
theorem test_event_published :
    (let s := after .eventPublished (after (.eventKindRead 0) noting)
     (readByte s.area 0x100010800, readByte s.area 0x100010801, s.events.position, s.regs.causes)) = (some 7, some 2, 1, 8) := by decide +kernel
theorem test_read_failure_fences : (after (.accessFailure .eventKindRead 0x800) noting).regs.fenced = { noFences with events := true } := by
  decide +kernel
theorem test_read_timeout_waits :
    (after (.readTimeout .eventKindRead 0x800) { noting with clock := 9999 }).regs.fenced = noFences ∧
      (after (.readTimeout .eventKindRead 0x800) { noting with clock := 10000 }).regs.fenced.events = true := by decide +kernel

/-- A fault record write in progress. -/
def recording (again stale : Bool) : State :=
  { running with fault := { resetFault with
      stored := some { stream := .pen, write := true, offset := 0xC00, time := 3 }
      write := some { cells := [(0x100010400, 1)], again := again, stale := stale } } }

theorem test_fault_recorded :
    (after .faultRecorded (recording false false)).regs.causes = 0x40 ∧
      (after .faultRecorded (recording false false)).fault.written = true := by decide +kernel
theorem test_fault_record_failure_halts :
    (after .faultRecordWriteFailure (recording false false)).regs.state = .halted ∧
      err (after .faultRecordWriteFailure (recording false false)) = true := by decide +kernel
/-- The record of a command in flight reads TAKEN on entry to HALTED (R172). -/
theorem test_halt_shows_taken :
    readByte (after .faultRecordWriteFailure { recording false false with command := (commanded 0).command }).area 0x100010040 =
      some 2 := by decide +kernel

/-! ### Witnesses: for every obligation with hypotheses, states and operands that meet them together -/

theorem witness_StepRunsFrontCommand :
    ({ running with pending := [.clockTick, .notice] } : State).pending = .clockTick :: [.notice] := rfl

/-- RUNNING with a pen record at the front of the queue. -/
def stepping : State := { drawing with pending := [.penRecord (penAt 60 true)] }

theorem witness_StepKeepsMemoryCanonical :
    Memory.wf stepping.area = true ∧ ∃ t, step stepping = .next t := ⟨rfl, _, rfl⟩
theorem witness_StepKeepsHoldingQueueBounded : QueueBounded stepping ∧ ∃ t, step stepping = .next t :=
  ⟨by unfold QueueBounded; decide, _, rfl⟩
theorem witness_StepKeepsPositionsInRange : PositionsInRange stepping ∧ ∃ t, step stepping = .next t :=
  ⟨by unfold PositionsInRange SurfaceInRange; decide, _, rfl⟩
theorem witness_StepKeepsTableSlotsSound :
    let s := { stepping with pad := { resetSurface with table := [contactAt 2 .finger, contactAt 0 .palm] } }
    TablesSound s ∧ ∃ t, step s = .next t :=
  ⟨by unfold TablesSound SlotsSound; decide +kernel, _, rfl⟩
theorem witness_StepKeepsContactsConfirmedFirst :
    let s := { stepping with pad := { resetSurface with table := [contactAt 2 .finger, contactAt 0 .palm] } }
    ContactsConfirmedFirst s ∧ ∃ t, step s = .next t := by
  refine ⟨?_, _, rfl⟩
  intro sf
  unfold ConfirmedFirst RetractedIsFinal
  cases sf <;> decide +kernel
theorem witness_StepKeepsOffAndHaltedAtRest :
    AtRest { ready with pending := [.runSet] } ∧ ∃ t, step { ready with pending := [.runSet] } = .next t := by
  refine ⟨fun _ => ?_, _, rfl⟩
  unfold SurfaceAtRest PenAtRest
  decide +kernel
theorem witness_StepKeepsPenConsistent : AtRest stepping ∧ PenConsistent stepping ∧ ∃ t, step stepping = .next t := by
  refine ⟨fun h => ?_, by unfold PenConsistent; decide +kernel, _, rfl⟩
  rcases h with h | h <;> exact absurd h (by decide)

/-- HALTED, as a failed fault record write leaves it. -/
def halted : State := after .faultRecordWriteFailure (recording false false)

theorem witness_HaltedLeftOnlyByReset :
    halted.regs.state = .halted ∧ AtRest halted ∧ (∃ t, exec (.resetLine false) halted = .next t) ∧
      ∃ t, exec (.penRecord (penAt 60 true)) halted = .next t := by
  refine ⟨by decide +kernel, fun _ => ?_, ⟨_, rfl⟩, _, rfl⟩
  unfold SurfaceAtRest PenAtRest
  decide +kernel
theorem witness_ClockMovesOnlyByTick :
    (∃ t, exec (.powerOnReset true) running = .next t) ∧ ∃ t, exec .runClear running = .next t := ⟨⟨_, rfl⟩, _, rfl⟩
theorem witness_ClockReadLatchesHighBits :
    (∃ t, exec .clockLoRead running = .next t ∧ running.latch = t.latch) ∧ (∃ t, exec (.resetLine false) running = .next t) ∧
      ∃ t, exec .notice running = .next t := ⟨⟨_, rfl, by decide +kernel⟩, ⟨_, rfl⟩, _, rfl⟩
theorem witness_AreaBaseWrittenOnlyInOff :
    ready.regs.state = .off ∧ running.regs.state ≠ .off ∧
      (State.reset.regs.state = .off ∧ State.reset.regs.run = false ∧ areaBase State.reset.regs = 0) ∧
      (areaBase { resetRegisters with areaLo := 0x1FFF }).toNat % 4096 ≠ 0 ∧
      (∃ t, exec (.powerOnReset false) ready = .next t) ∧ ∃ t, exec (.resetLine false) ready = .next t :=
  ⟨rfl, by decide, by decide +kernel, by decide +kernel, ⟨_, rfl⟩, _, rfl⟩
theorem witness_CausesClearedOnlyByHostOrReset :
    (∃ t, exec (.resetLine false) (recording false false) = .next t) ∧
      ∃ t, exec .faultRecorded (recording false false) = .next t := ⟨⟨_, rfl⟩, _, rfl⟩
theorem witness_SurfacesWorkIndependently :
    (∃ t, exec (.startWord .pad 1) running = .next t) ∧ ∃ t, exec (.frameSlotStateRead .pad 0) offered = .next t :=
  ⟨⟨_, rfl⟩, _, rfl⟩
theorem witness_SettingsChangeOnlyByTheirCommands :
    (∃ t, exec .setHand (commanded (posted 6 1 0)) = .next t) ∧ ∃ t, exec (.resetLine true) running = .next t :=
  ⟨⟨_, rfl⟩, _, rfl⟩

/-- A stop in progress with nothing left to do. -/
def stopping : State := { running with regs := { running.regs with run := false, stopping := true } }

/-- The hypotheses of the state tables: RUN set, the end of a stop, the entry into HALTED. -/
theorem witness_StateTable :
    (ready.regs.state = .off ∧ ready.regs.run = false ∧ baseValid ready.regs = true ∧ AtRest ready) ∧
      (stopDone stopping = true ∧ stopping.regs.run = false) ∧ (recording true false).fault.write.isSome = true ∧
      (stopDone { stopping with regs := { stopping.regs with run := true } } = true) := by
  refine ⟨⟨rfl, rfl, by decide +kernel, fun _ => ?_⟩, by decide +kernel, rfl, by decide +kernel⟩
  unfold SurfaceAtRest PenAtRest
  decide +kernel
/-- The resets of the state tables' further clauses. -/
theorem witness_resets (s : State) :
    (∃ t, exec (.powerOnReset true) s = .next t) ∧ ∃ t, exec (.resetLine true) s = .next t := ⟨⟨_, rfl⟩, _, rfl⟩

/-- A pad link whose decoder holds cells. -/
def linked (r : RunState) (decoder : Decoder) : State :=
  { running with regs := { running.regs with state := r }, pad := { resetSurface with state := .active, decoder := decoder } }

theorem witness_LinkDecoderTable :
    (linked .running .idle).regs.state ≠ .halted ∧ (linked .running .idle).pad.decoder = .idle ∧
      (linked .off .skipping).pad.decoder = .skipping ∧
      (List.replicate 307 (0 : Int)).length < Config.cells .pad ∧ (List.replicate 308 (0 : Int)).length = Config.cells .pad := by
  decide +kernel
/-- A pad link with a whole frame received, the frame places holding a frame or not. -/
def arriving (r : RunState) (st : SurfaceState) (processing waiting : Bool) : State :=
  { running with
    regs := { running.regs with state := r }
    pad := { resetSurface with
      state := st, decoder := .opened 5 (List.replicate 308 0)
      processing := if processing then some { frame := frameOf [], start := none } else none
      waiting := if waiting then some (frameOf []) else none } }

theorem witness_AcceptedFrameTakesItsPlace :
    let full := List.replicate 308 (0 : Int)
    full.length = Config.cells .pad ∧
      ((arriving .off .inactive false false).regs.state = .off ∧ (arriving .off .inactive false false).pad.decoder = .opened 5 full) ∧
      ((arriving .doze .inactive false false).regs.state = .doze ∧ (arriving .doze .inactive false false).pad.state = .inactive ∧
        (arriving .doze .inactive false false).pad.decoder = .opened 5 full) ∧
      ({ arriving .running .active false false with regs := stopping.regs } : State).regs.stopping = true ∧
      ((arriving .running .active false false).regs.stopping = false ∧ (arriving .running .active false false).pad.processing = none) ∧
      ((arriving .running .active true false).pad.processing.isSome = true ∧ (arriving .running .active true false).pad.waiting = none) ∧
      ((arriving .running .inactive true true).pad.processing.isSome = true ∧
        (arriving .running .inactive true true).pad.waiting.isSome = true) := by
  decide +kernel
theorem witness_HaltedLinksIgnoreWords :
    halted.regs.state = .halted ∧ (recording false false).fault.write.isSome = true ∧
      ∃ t, exec (.powerOnReset false) halted = .next t := ⟨by decide +kernel, rfl, _, rfl⟩

theorem witness_FrameStartSettles :
    let s := waitingToBegin .pad .settling 0
    let i := waitingToBegin .pad .inactive 9
    let d := { waitingToBegin .pad .settling 0 with posture := { resetPosture with posture := .tent } }
    let r := waitingToBegin .screen .settling 15
    (s.regs.state = .running ∧ ReadyToStart s .pad (frameOf []) ∧ s.pad.closing = [] ∧ s.pad.state = .settling ∧
      activityOf (currentEntry s.posture) .pad = true ∧
      s.pad.settle < (sectionOf .pad (bankOf s.posture (currentEntry s.posture).bank)).settleFrames) ∧
      ReadyToStart r .screen (frameOf []) ∧
      (sectionOf .screen (bankOf r.posture (currentEntry r.posture).bank)).settleFrames ≤ r.screen.settle ∧
      (ReadyToStart i .pad (frameOf []) ∧ i.pad.state = .inactive ∧ activityOf (currentEntry i.posture) .pad = true) ∧
      (ReadyToStart d .pad (frameOf []) ∧ activityOf (currentEntry d.posture) .pad = false) :=
  ⟨⟨rfl, ⟨rfl, rfl, rfl⟩, rfl, rfl, rfl, by decide +kernel⟩, ⟨rfl, rfl, rfl⟩, by decide +kernel,
    ⟨⟨rfl, rfl, rfl⟩, rfl, rfl⟩, ⟨rfl, rfl, rfl⟩, rfl⟩
theorem witness_FrameStartDeactivates :
    let s := { waitingToBegin .pad .active 0 with posture := { resetPosture with posture := .tent } }
    let r := { waitingToBegin .screen .active 0 with posture := { resetPosture with posture := .closed } }
    let b := waitingToBegin .pad .active 0
    let c := { b with pad := { b.pad with bankInForce := .b } }
    (s.regs.state = .running ∧ ReadyToStart s .pad (frameOf []) ∧ s.pad.closing = [] ∧ s.pad.state = .active ∧
      activityOf (currentEntry s.posture) .pad = false) ∧
      (ReadyToStart r .screen (frameOf []) ∧ r.screen.state = .active ∧ activityOf (currentEntry r.posture) .screen = false) ∧
      (ReadyToStart c .pad (frameOf []) ∧ c.pad.closing = [] ∧ activityOf (currentEntry c.posture) .pad = true ∧
        (currentEntry c.posture).bank ≠ c.pad.bankInForce) :=
  ⟨⟨rfl, ⟨rfl, rfl, rfl⟩, rfl, rfl, rfl⟩, ⟨⟨rfl, rfl, rfl⟩, rfl, rfl⟩, ⟨rfl, rfl, rfl⟩, rfl, rfl, by decide⟩
theorem witness_FrameStartKeepsContacts :
    let s := waitingToBegin .pad .active 0
    s.regs.state = .running ∧ ReadyToStart s .pad (frameOf []) ∧ s.pad.state = .active ∧
      activityOf (currentEntry s.posture) .pad = true ∧ (currentEntry s.posture).bank = s.pad.bankInForce ∧
      (bankOf s.posture s.pad.bankInForce).padOnly.gestureFloor = 0 := ⟨rfl, ⟨rfl, rfl, rfl⟩, rfl, rfl, rfl, rfl⟩

/-- A screen frame to begin with the pen near under SUSPEND_ALL or not, and a suspension applied or not. -/
def suspending (near applied : Bool) : State :=
  { waitingToBegin .screen .active 0 with
    pen := { resetPen with isOpen := true, state := .hover, guardOn := near }
    posture := { resetPosture with bankA := { defaultBank with screenOnly := { defaultScreenOnly with suspendAll := true } } }
    suspension := { resetSuspension with applied := applied } }

theorem witness_ScreenFrameStartTakesSuspensionStep :
    let near (s : State) : Prop := s.pen.guardOn = true ∧
      (bankOf s.posture (if s.screen.state = .watch then s.screen.bankInForce else (currentEntry s.posture).bank)).screenOnly.suspendAll = true
    (suspending true false).screen.processing = some { frame := frameOf [], start := none } ∧
      (suspending true false).regs.state = .running ∧ near (suspending true false) ∧
      ¬near (suspending false true) ∧ (suspending false true).suspension.applied = true ∧ near (suspending true true) ∧
      (let s := { waitingToBegin .pad .watch 0 with regs := { running.regs with state := .doze } }
       s.regs.state = .doze ∧ s.pad.processing = some { frame := frameOf [], start := none }) := by
  refine ⟨rfl, rfl, ⟨rfl, rfl⟩, ?_, rfl, ⟨rfl, rfl⟩, rfl, rfl⟩
  rintro ⟨h, -⟩
  exact absurd h (by decide)
/-- A screen frame start takes the pen guard, the newly seen activation and the pen's position into its view
(R70). -/
theorem test_frame_view :
    let s := { waitingToBegin .screen .active 0 with
      pen := { resetPen with isOpen := true, state := .hover, guardOn := true, count := 2, lastPos := some (⟨5, 6⟩, .a) } }
    ((after (.frameStart .screen) s).screen.processing.bind (·.start)).map (fun st =>
      (st.view.enable, st.view.guardOn, st.view.newlySeen, st.view.guardCount, st.view.penPos)) =
      some (true, true, true, 2, some ⟨5, 6⟩) := by decide +kernel
/-- A handover that waits for the end of an access under way. -/
def handedLate : Handover :=
  { entries := [], time := 0, bank := .a, palms := false, idle := false, rangeX := 4095, rangeY := 2496
    flags := noFrameFlags }

/-- A pad frame to be tracked while an earlier handover waits. -/
def crowded : State :=
  { processing .track true [] with pad := { (processing .track true []).pad with
      publisher := { offered.pad.publisher with handed := [handedLate] } } }

/-- The frame waits, and ends once the access has ended and the handover has been taken (R180). -/
theorem test_processing_end_waits :
    (after (.frameProcessingEnd .pad) crowded).pad.processing.isSome = true ∧
      (after (.frameProcessingEnd .pad) (after (.frameSlotPublished .pad)
        (after (.frameSlotStateRead .pad 0) crowded))).pad.processing.isSome = false := by decide +kernel
theorem witness_ProcessingEndTakesWaitingFrame :
    (processing .discard true []).pad.processing = some { frame := frameOf [], start := some (startedAs .discard true) } ∧
      (startedAs .discard true).work = .discard ∧ (processing .discard true []).regs.state = .running ∧
      (crowded.regs.state = .running ∧ (startedAs .track true).work = .track ∧ crowded.pad.publisher.handed ≠ [] ∧
        crowded.pad.processing = some { frame := frameOf [], start := some (startedAs .track true) }) :=
  ⟨rfl, rfl, rfl, rfl, rfl, List.cons_ne_nil _ _, rfl⟩
/-- A blob within the gate of a prediction, and one beyond it. -/
theorem witness_nearestBlob :
    let b := blobOf 22 14 true [{ col := 10, row := 5, value := 400 }]
    nearestBlob 768 ⟨2560, 1280⟩ [b] = some b ∧ nearestBlob 768 ⟨0, 0⟩ [b] = none := by decide +kernel
theorem witness_TrackedFrameReleasesEnded :
    (processing .track true []).pad.processing = some { frame := frameOf [], start := some (startedAs .track true) } ∧
      (startedAs .track true).work = .track ∧ (processing .track true []).regs.state = .running ∧
      (processing .track true []).pad.publisher.handed = [] := ⟨rfl, rfl, rfl, rfl⟩
theorem witness_NoFingerWhileFingersOff :
    let s := { processing .track false [] with pad := { (processing .track false []).pad with table := [contactAt 1 .finger] } }
    s.pad.processing = some { frame := frameOf [], start := some (startedAs .track false) } ∧
      (startedAs .track false).view.enable = false ∧ s.regs.state = .running ∧ s.pad.publisher.handed = [] ∧
      (startedAs .track false).work = .track ∧ ∀ k ∈ s.pad.table, RetractedIsFinal k := by
  refine ⟨rfl, rfl, rfl, rfl, rfl, ?_⟩
  simp [contactAt, RetractedIsFinal, newContact]
/-- The tests of classification at the ends of their ranges: a palm exactly palm_radius away and one a unit
farther, the guard region's corner and a unit left of it, a growth of exactly grow_limit and one less, and the
last frame before the decision window. -/
theorem witness_ClassMoves :
    let k := contactAt 1 .undecided
    let palm (d : Int) : Contact := { contactAt 0 .palm with mapped := { k.mapped with x := k.mapped.x + d } }
    let v := { padView State.reset with guardOn := true, penPos := some ⟨500, 500⟩ }
    let corner : Pt := ⟨500 - defaultScreenOnly.guardMarginX, 500 - defaultScreenOnly.guardMarginY⟩
    let grown (n : Nat) : Contact := { k with edge := true, prevArea := some 1, area := n }
    NearPalm defaultPad [palm defaultPad.palmRadius] k ∧ neighbourTest defaultPad [palm (defaultPad.palmRadius + 1)] k = false ∧
      inGuardRegion defaultScreenOnly v corner = true ∧
      inGuardRegion defaultScreenOnly v { corner with x := corner.x - 1 } = false ∧
      GrowsAtEdge defaultPad (grown (1 + defaultPad.growLimit)) ∧ edgeGrowTest defaultPad (grown defaultPad.growLimit) = false ∧
      ({ k with age := defaultPad.decideFrames - 1 } : Contact).age < defaultPad.decideFrames :=
  ⟨⟨_, List.mem_singleton.2 rfl, by decide +kernel⟩, by decide +kernel, by decide +kernel, by decide +kernel,
    ⟨rfl, 1, rfl, by decide +kernel⟩, by decide +kernel, by decide +kernel⟩
/-- A wake frame and a frame without a blob reach the doze watch. -/
theorem witness_DozeWatchCountsWakeFrames :
    let st := startedAs .watch true
    let p := sectionOf .pad st.snap.values
    (({ processing .watch true [400] with regs := { running.regs with state := .doze } } : State).regs.state = .doze ∧
      (processing .watch true [400]).pad.processing = some { frame := frameOf [400], start := some st }) ∧
      ((extractOn .pad p [400]).1.any fun b => (st.zones.places.take st.zones.count).any fun z =>
        z.any fun w => w.flags.wake && inZone w (mapPoint p.mapping b.centroid).1) = true ∧
      (extractOn .pad p []).1 = [] := by
  refine ⟨⟨rfl, rfl⟩, ?_, ?_⟩ <;> decide +kernel
/-- Cells that touch at a corner only form two components, of raster indices 47 and 70; a cell beside both
joins them (R16's example). -/
theorem test_components_by_sides :
    let at_ (l : List Nat) : List Int := (List.range 80).map fun i => if i ∈ l then 400 else 0
    (extractOn .pad defaultPad (at_ [47, 70])).1.map (fun b => (b.index, b.raster)) = [(0, 47), (1, 70)] ∧
      (extractOn .pad defaultPad (at_ [47, 69, 70])).1.map (fun b => (b.raster, b.area)) = [(47, 3)] := by decide +kernel
theorem witness_CentroidWithinBoundingBox :
    ([{ col := 21, row := 0, value := 1 }] : List LitCell) ≠ [] ∧
      ∀ c ∈ ([{ col := 21, row := 0, value := 1 }] : List LitCell), 1 ≤ c.value := by decide
theorem witness_AllocatedIdIsFirstFree :
    (1 ≤ 63 ∧ 63 ≤ 63 ∧ [63, 1, 2].length < 63) ∧ allocateId 63 [63, 1, 2] = 3 := by decide +kernel
theorem witness_MalformedRecordsCounted :
    ({ penAt 0 true with tiltX := 91 }).tiltX > 90 ∧ drawing.regs.state = .running ∧ drawing.pen.isOpen = true ∧
      running.pen.isOpen = false := by decide +kernel
theorem witness_InRangeSampleTaken :
    drawing.regs.state = .running ∧ drawing.pen.isOpen = true ∧ isMalformed (penAt 40 true) = false ∧
      (penAt 40 true).inRange = true ∧
      (let d : State := { drawing with regs := { running.regs with state := .doze } }
       d.regs.state = .doze ∧ d.pen.isOpen = true ∧ d.wakeReported = false) := by decide +kernel
/-- The default knots are in order, and the last segment holds 4095. -/
theorem witness_CurveRuns :
    let knots : List (Nat × Nat) := [(0, defaultPen.knotY0), (defaultPen.knotX1, defaultPen.knotY1),
      (defaultPen.knotX2, defaultPen.knotY2), (defaultPen.knotX3, defaultPen.knotY3), (4095, defaultPen.knotY4)]
    (knots.Pairwise fun a b => a.1 < b.1 ∧ a.2 ≤ b.2) ∧ knots[3]? = some (3072, 800) ∧ knots[4]? = some (4095, 1023) ∧
      knots[0]? = some (0, 0) ∧ knots[1]? = some (1024, 200) := by decide +kernel
theorem witness_PenLeavesRange :
    let linger := (bankOf touching.posture touching.screen.bankInForce).pen.linger
    let briefly : State := { touching with
      regs := { running.regs with state := .doze }
      posture := { resetPosture with bankA := { defaultBank with pen := { defaultPen with linger := 0 } } } }
    (touching.regs.state = .running ∧ touching.pen.isOpen = true ∧ isMalformed (penAt 0 false) = false ∧
      (penAt 0 false).inRange = false ∧ touching.pen.state = .touch ∧ 0 < linger ∧ linger ≤ 5000000) ∧
      touching.pen.timeout = some touching.clock ∧
      (briefly.regs.state = .doze ∧ (bankOf briefly.posture briefly.screen.bankInForce).pen.linger = 0) ∧
      (drawing.pen.state = .away ∧ drawing.penOut.handed = [] ∧ drawing.events.handed = [] ∧
        drawing.events.access = .none) ∧
      ({ resetPen with state := .linger, linger := some running.clock } : PenChannel).linger = some running.clock := by
  decide +kernel
theorem witness_KeyactEdgesRunTypingGuard :
    running.inputs.level = false ∧ running.regs.state = .running ∧
      (bankOf running.posture running.pad.bankInForce).padOnly.typingGuard ≤ 2000000 ∧ ready.regs.state = .off ∧
      ({ running with inputs := { level := true, typing := some 0 } } : State).inputs.typing = some running.clock := by
  decide +kernel
/-- A pending tap, or a DRAG in drag lock, at its deadline. -/
def tapping : State :=
  { running with gestures := { emptyGestures 1 with tap := some { fingers := 1, pos := ⟨0, 0⟩, lift := 0, deadline := 0 } } }
/-- The DRAG in drag lock. -/
def locked : State :=
  { running with gestures := { emptyGestures 1 with
      service := some { gesture := .drag, inst := 1, members := [], lastSpan := 0, steps := 0, lock := some 0 } } }

theorem witness_TapAndDragLockExpire :
    (tapping.gestures.tap.map (·.deadline)) = some tapping.clock ∧
      (locked.gestures.service.map (·.lock)) = some (some locked.clock) ∧
      (tapping.regs.fenced.events = false ∧ tapping.events.access = .none ∧ tapping.events.handed = []) ∧
      (locked.regs.fenced.events = false ∧ locked.events.access = .none ∧ locked.events.handed = []) := by decide +kernel
theorem witness_GestureInServiceStaysOrEnds :
    let g := { emptyGestures 1 with
      service := some { gesture := .scroll, inst := 1, members := [(3, ⟨0, 0⟩)], lastSpan := 0, steps := 0, lock := none } }
    g.service.isSome = true ∧ g.tap = none := by decide +kernel

/-- A finger of the pad, by its id, position and state. -/
def fingerOf (id : Nat) (x y : Int) (state : ContactState) : Contact :=
  { contactAt 0 .finger with id := id, state := state, filtered := ⟨x, y⟩, down := some ⟨x, y⟩ }

/-- A tracked pad frame of some contacts, the confirmed and the retracted ids, with the default parameters. -/
def tracking (contacts : List Contact) (confirmed retracted : List Nat) : GestureInput :=
  { contacts := contacts, confirmed := confirmed, retracted := retracted, params := defaultPadOnly
    typing := false, time := 0 }

/-- A gesture in service with members whose last positions are the origin. -/
def serving (gesture : Gesture) (members : List Nat) (lock : Option Time) : Service :=
  { gesture := gesture, inst := 1, members := members.map fun i => (i, ⟨0, 0⟩), lastSpan := 0, steps := 0, lock := lock }

/-- A frame's gesture work with some engine. -/
def workOf (engine : GestureEngine) : GestureWork := { engine := engine, events := [], granted := false }

/-- A member retracted, a member ended and not retracted, and neither. -/
theorem witness_EndsStage :
    let v := serving .scroll [3] none
    (∃ m ∈ v.members, m.1 ∈ (tracking [] [] [3]).retracted) ∧
      ((¬∃ m ∈ v.members, m.1 ∈ (tracking [] [] []).retracted) ∧
        contactOf (tracking [fingerOf 3 0 0 .ended] [] []) 3 = some (fingerOf 3 0 0 .ended)) ∧
      contactOf (tracking [fingerOf 3 0 0 .held] [] []) 3 = some (fingerOf 3 0 0 .held) := by decide +kernel

/-- A DRAG in drag lock without a tap pending; nothing in service, without and with a tap pending, a finger
at its position and one far away. -/
theorem witness_ConfirmationsStage :
    let f := tracking [fingerOf 3 0 0 .held] [3] []
    let tap : PendingTap := { fingers := 1, pos := ⟨200, 0⟩, lift := 0, deadline := 9 }
    (f.confirmed.head? = some 3 ∧ contactOf f 3 = some (fingerOf 3 0 0 .held) ∧ (fingerOf 3 0 0 .held).down = some ⟨0, 0⟩) ∧
      (LockedDrag (serving .drag [] (some 5)) ∧ (emptyGestures 1).tap = none) ∧
      ((emptyGestures 1).service = none ∧ (emptyGestures 1).sequence = none) ∧
      ({ emptyGestures 1 with tap := some tap }).tap = some tap ∧
      ptDist ⟨0, 0⟩ tap.pos ≤ f.params.dragRadius ∧ f.params.dragRadius < ptDist ⟨0, 0⟩ ⟨201, 0⟩ :=
  ⟨by decide +kernel, ⟨⟨rfl, rfl, rfl⟩, rfl⟩, ⟨rfl, rfl⟩, rfl, by decide +kernel, by decide +kernel⟩

/-- The reference holding the fingers, and holding none of them. -/
theorem witness_ReferenceStage :
    let f := tracking [fingerOf 3 0 0 .held] [] []
    (fingersOf f).map (·.id) = [(3, (⟨0, 0⟩ : Pt))].map (·.1) ∧
      (fingersOf f).map (·.id) ≠ (emptyGestures 1).reference.members.map (·.1) := by decide +kernel

/-- Two fingers that have moved by 80 with their span kept claim a SCROLL: above floor 0, and over a DRAG of
one of them; a SCROLL in service is not lower. -/
theorem witness_ClaimsStage :
    let f := tracking [fingerOf 3 80 0 .held, fingerOf 4 480 0 .held] [] []
    let r : Reference := { members := [(3, ⟨0, 0⟩), (4, ⟨400, 0⟩)], span0 := some 400 }
    let mean := meanMotion f r.members
    let span := firstSpan ((fingersOf f).map (·.filtered))
    ((fingersOf f).length = 2 ∧ f.params.scrollStart ≤ octDist mean.x mean.y ∧ span = 400 ∧ 0 < f.params.pinchStart) ∧
      f.params.gestureFloor < priority .scroll ∧
      (priority (serving .drag [3] none).gesture < priority .scroll ∧
        ∀ m ∈ (serving .drag [3] none).members, m.1 ∈ (fingersOf f).map (·.id)) ∧
      priority .scroll ≤ priority (serving .scroll [3, 4] none).gesture := by decide +kernel

/-- A member that has moved, alone on the pad, and one that rests. -/
theorem witness_StepsStage :
    let v := serving .drag [3] none
    let moved := tracking [fingerOf 3 5 0 .held] [] []
    let rests := tracking [fingerOf 3 0 0 .held] [] []
    ((workOf { emptyGestures 1 with service := some v }).granted = false ∧ v.members ≠ [] ∧
        (fingersOf moved).map (·.id) = v.members.map (·.1) ∧ meanMotion moved v.members ≠ { x := 0, y := 0 }) ∧
      meanMotion rests v.members = { x := 0, y := 0 } := by decide +kernel

/-- The last finger gone from a short still sequence of one finger, and of two; and a finger still there. -/
theorem witness_SequenceStage :
    let q : Sequence := { start := 0, first := 3, tapPos := ⟨0, 0⟩, firstZone := noZoneFlags, maxFingers := 1
                          maxDisp := 0, granted := false, retracted := false }
    let gone := tracking [{ fingerOf 3 0 0 .ended with maxDisp := some 60 }] [] []
    let both := tracking [fingerOf 3 0 0 .ended, fingerOf 4 9 0 .ended] [] []
    (fingersOf gone = [] ∧ (gone.time - q.start).toNat ≤ gone.params.tapTime ∧
        (touchingOf gone).map (fun k => k.maxDisp.getD 0) = [60] ∧ 60 ≤ gone.params.tapSlop ∧
        max q.maxFingers (touchingOf gone).length = 1 ∧ gone.typing = false ∧ gone.params.gestureFloor = 0) ∧
      (fingersOf both = [] ∧ max q.maxFingers (touchingOf both).length = 2) ∧
      fingersOf (tracking [fingerOf 3 0 0 .held] [] []) ≠ [] := by decide +kernel
/-- The worked frames 12 and 13 of the two-finger scroll: BEGIN with dy −102 and instance 17, then a step of
dy −38. -/
theorem test_scroll_begins_and_steps :
    let r : Reference := { members := [(3, ⟨1000, 1200⟩), (4, ⟨1400, 1200⟩)], span0 := some 400 }
    let g := gestureFrame (tracking [fingerOf 3 1002 1100 .held, fingerOf 4 1398 1095 .held] [] []) 0
      { emptyGestures 16 with reference := r }
    let h := gestureFrame (tracking [fingerOf 3 1002 1060 .held, fingerOf 4 1398 1058 .held] [] []) 0 g.1
    g.2.map (fun e => (e.kind, e.inst, e.dy)) = [(.gestureBegin, 17, -102)] ∧
      h.2.map (fun e => (e.kind, e.inst, e.dy)) = [(.gestureStep, 17, -38)] := by decide +kernel
theorem witness_RunClearBeginsStop :
    (running.regs.state = .running ∧ running.regs.run = true ∧ running.regs.stopping = false ∧ running.command.pass = none) ∧
      (commanded (posted 9 0 0)).command.inFlight.isSome = true := by decide +kernel
/-- FAULT set with COMMANDS fenced, with or without the rescan flag. -/
def faulted (rescan : Bool) : State :=
  { running with
    regs := { running.regs with causes := 0x40, fenced := { noFences with commands := true } }
    command := { resetCommand with rescan := rescan } }

theorem witness_MaskAndCauseWrites :
    (running.regs.state ≠ .halted ∧ (running.regs.causes.getLsbD 6 && (0x4000#32).getLsbD 14) = false) ∧
      ((faulted true).regs.state ≠ .halted ∧ ((faulted true).regs.causes.getLsbD 6 && (0x4000#32).getLsbD 14) = true) ∧
      0x18#8 ∉ [0x04#8, 0x08#8, 0x0C#8, 0x10#8] ∧ halted.regs.state = .halted := by decide +kernel

theorem witness_FaultClearReopensStreams :
    ((faulted false).regs.state ≠ .halted ∧ (faulted false).regs.causes.getLsbD 6 = true ∧ (faulted false).command.rescan = false) ∧
      ((faulted true).regs.state = .running ∧ (faulted true).regs.stopping = false ∧ (faulted true).command.rescan = true ∧
        (faulted true).regs.fenced.commands = true ∧ (faulted true).command.pass = none) ∧
      running.regs.causes.getLsbD 6 = false := by decide +kernel
theorem witness_NoticeTable :
    (ready.regs.state = .off ∧ halted.regs.state = .halted ∧ stopping.regs.stopping = true) ∧
      (running.regs.stopping = false ∧ running.command.pass = none ∧ running.regs.fenced.commands = false) ∧
      ((commanded 0).command.pass.isSome = true ∧ (faulted false).regs.fenced.commands = true) := by decide +kernel

/-- A pass examining its 1st or its 16th record. -/
def examining (examined : Nat) : State :=
  { running with command := { resetCommand with pass := some { index := 0, examined := examined, last := none, since := 0 } } }

/-- A write of one byte at an area offset. -/
def cellAt (offset : Nat) : List Host.Cell := [(hostAddress running.regs offset, 1)]

/-- The failures of writes meet a write at the offset they name. -/
theorem writesAt_cellAt (s : State) (offset : BitVec 32) (h : s.regs = running.regs) : WritesAt s offset (cellAt offset.toNat) :=
  ⟨_, List.mem_singleton.2 rfl, by rw [h]; rfl⟩

theorem witness_ExaminationTakesOrSkips :
    ((commanded 0).command.inFlight = some (flight 0) ∧ (flight 0).taken = false ∧ (0x40#32).toNat = 64 * (flight 0).index) ∧
    ((examining 14).command.inFlight = none ∧ (examining 14).command.pass.isSome = true ∧
      (examining 15).regs.stopping = false ∧ (examining 15).regs.fenced.commands = false ∧ (examining 15).command.rescan = false) ∧
      (numAt (0 : BitVec 512) 0 ≠ 1 ∧ numAt (posted 0 0 0) 0 = 1 ∧ numAt (posted 0 0 0) 1 = 0 ∧ 11 < numAt (posted 12 0 0) 1) ∧
      badArgument (posted 6 2 0) = some 4 ∧ badArgument (posted 6 1 0) = none := by decide +kernel

/-- A command of a kind in flight. -/
theorem inFlight_commanded (kind a b : Nat) (h : recordKind (posted kind a b) = kind) :
    InFlightAs (commanded (posted kind a b)) kind (flight (posted kind a b)) := ⟨rfl, rfl, h⟩

theorem witness_SettingCommandsComplete :
    InFlightAs (commanded (posted 3 0 0)) 3 (flight (posted 3 0 0)) ∧ InFlightAs (commanded (posted 4 0 0)) 4 (flight (posted 4 0 0)) ∧
      InFlightAs (commanded (posted 5 1 0)) 5 (flight (posted 5 1 0)) ∧ InFlightAs (commanded (posted 6 0 0)) 6 (flight (posted 6 0 0)) ∧
      InFlightAs (commanded (posted 7 1 0)) 7 (flight (posted 7 1 0)) ∧
      postureOfCode (numAt (posted 4 0 0) 4) = resetPosture.posture ∧ postureOfCode (numAt (posted 4 4 0) 4) ≠ resetPosture.posture ∧
      numAt (posted 5 0 0) 4 = 0 ∧ numAt (posted 5 1 0) 4 = 1 ∧ (suspending true true).suspension.applied = true ∧
      (commanded (posted 5 1 0)).suspension.applied = false :=
  ⟨inFlight_commanded 3 0 0 (by decide +kernel), inFlight_commanded 4 0 0 (by decide +kernel),
    inFlight_commanded 5 1 0 (by decide +kernel), inFlight_commanded 6 0 0 (by decide +kernel),
    inFlight_commanded 7 1 0 (by decide +kernel), by decide +kernel⟩
theorem witness_ClearRequestLife :
    InFlightAs (commanded (posted 8 1 0)) 8 (flight (posted 8 1 0)) ∧ numAt (posted 8 1 0) 4 = 1 ∧
      (waitingToBegin .pad .inactive 0).pad.processing = some { frame := frameOf [], start := none } ∧
      stopDone stopping = true ∧ (recording false false).fault.write.isSome = true ∧
      (∃ t, exec (.frameProcessingEnd .pad) (processing .discard true []) = .next t) ∧
      (let s := waitingToBegin .pad .active 0
       let c : State := { s with pad := { s.pad with clearReq := true, table := [contactAt 2 .finger] } }
       c.regs.state = .running ∧ c.pad.processing = some { frame := frameOf [], start := none } ∧ c.pad.clearReq = true ∧
         c.pad.sleepClose = false ∧ c.pad.closing = [] ∧ c.pad.state = .active ∧
         activityOf (currentEntry c.posture) .pad = true ∧ (currentEntry c.posture).bank = c.pad.bankInForce) :=
  ⟨inFlight_commanded 8 1 0 (by decide +kernel), by decide +kernel, rfl, by decide +kernel, rfl, ⟨_, rfl⟩,
    rfl, rfl, rfl, rfl, rfl, rfl, rfl, rfl⟩
theorem witness_LoadBankReplacesOrRefuses :
    InFlightAs (commanded (posted 1 1 0)) 1 (flight (posted 1 1 0)) ∧ (commanded (posted 1 1 0)).posture.staging = none ∧
      numAt (posted 1 1 0) 4 = 1 ∧
      (OffsetAccepted (recordOffset (posted 1 1 0)) 8 ∧ recordOffset (posted 1 1 0) + 8 + 8 * 1 ≤ 0x4000) ∧
      (¬OffsetAccepted 0x1FF8 8 ∧ ¬OffsetAccepted 0x4000 8 ∧ OffsetAccepted 0x3FF8 8 ∧ 0x4000 < 0x3FF8 + 8 + 8 * 1) ∧
      ((word32At (0 : BitVec 64) 0).toNat = 0 ∧ 120 < (word32At (121 : BitVec 64) 0).toNat ∧ (word32At (1 : BitVec 64) 0).toNat = 1) ∧
      structureFault { defaultBank with pen := { defaultPen with tipOn := 24 } } = some 3 ∧ structureFault defaultBank = none :=
  ⟨inFlight_commanded 1 1 0 (by decide +kernel), rfl, by unfold OffsetAccepted; decide +kernel⟩
/-- Each of the 85 parameters of Tables 7-3 to 7-5 has one row. -/
theorem test_parameter_rows : (parameterRows.map (·.1)).Nodup ∧ parameterRows.length = 85 := by decide +kernel
/-- A value at the end of its range, one beyond it, and a number of no table. -/
theorem witness_EntryApplied :
    let number (n v : Nat) : BitVec 64 := BitVec.ofNat 64 (n + 2 ^ 32 * v)
    (∃ row ∈ parameterRows, row.1 = ((number 104 15).extractLsb' 0 32).toNat ∧ row.2.2.1 = 15) ∧
      ((number 104 16).extractLsb' 32 32).toInt = 16 ∧
      ∀ row ∈ parameterRows, row.1 ≠ ((number 125 0).extractLsb' 0 32).toNat :=
  ⟨⟨_, List.mem_of_getElem? (i := 3) rfl, by decide +kernel⟩, by decide +kernel, by decide +kernel⟩
/-- A place not present, a rectangle crossed by its clamping, and one whose corner lies at the range's end. -/
theorem witness_ZoneRead :
    let r (present x0 x1 : Nat) : BitVec 128 := BitVec.ofNat 128 (present + 2 ^ 32 * x0 + 2 ^ 64 * x1)
    ((r 0 1 2).extractLsb' 0 8 = 0 ∧ (r 1 1 2).extractLsb' 0 8 ≠ 0) ∧
      readZone 10 10 (r 1 9 8) = (none, false, true) ∧ (readZone 10 10 (r 1 10 11)).2 = (true, false) := by decide +kernel
theorem witness_LoadZonesReplacesOrRefuses :
    InFlightAs (commanded (posted 2 0 1)) 2 (flight (posted 2 0 1)) ∧ (commanded (posted 2 0 1)).posture.zoneStaging = none ∧
      (numAt (posted 2 0 1) 4 = 0 ∧ numAt (posted 2 0 1) 5 = 1) ∧ (numAt (posted 2 0 16) 5 = 16 ∧ numAt (posted 2 0 0) 5 = 0) ∧
      OffsetAccepted (recordOffset (posted 2 0 1)) (16 * 1) ∧ ¬OffsetAccepted 0x3FF8 (16 * 1) :=
  ⟨inFlight_commanded 2 0 1 (by decide +kernel), rfl, by unfold OffsetAccepted; decide +kernel⟩
theorem witness_SleepAndWakeMoveRunState :
    InFlightAs (commanded (posted 9 0 0)) 9 (flight (posted 9 0 0)) ∧ (commanded (posted 9 0 0)).regs.state = .running ∧
      (commanded (posted 9 0 0)).regs.stopping = false ∧
      InFlightAs { commanded (posted 10 0 0) with regs := { running.regs with state := .doze } } 10 (flight (posted 10 0 0)) ∧
      stopping.regs.stopping = true ∧
      (let s := waitingToBegin .pad .watch 0
       let c : State := { s with
         regs := { running.regs with state := .doze }, pad := { s.pad with sleepClose := true, table := [contactAt 2 .finger] } }
       c.regs.state = .doze ∧ c.pad.processing = some { frame := frameOf [], start := none } ∧ c.pad.sleepClose = true ∧
         c.pad.clearReq = false ∧ c.pad.closing = [] ∧ c.pad.state ≠ .active) :=
  ⟨inFlight_commanded 9 0 0 (by decide +kernel), rfl, rfl, inFlight_commanded 10 0 0 (by decide +kernel), rfl,
    rfl, rfl, rfl, rfl, rfl, by decide⟩
theorem witness_SnapshotCopiesStateAtOnce :
    InFlightAs (commanded (posted 11 0 0)) 11 (flight (posted 11 0 0)) ∧ OffsetAccepted (recordOffset (posted 11 0 0)) 128 ∧
      (OffsetAccepted 0x3F80 128 ∧ ¬OffsetAccepted 0x3F88 128) ∧
      (let f := { flight (posted 11 0 0) with snapshot := cellAt 0x2000, phase := .finishing 0 0 (List.replicate 32 0) }
       let s := { commanded 0 with command := { (commanded 0).command with inFlight := some f } }
       s.command.inFlight = some f ∧ WritesAt s 0x2000 f.snapshot) :=
  ⟨inFlight_commanded 11 0 0 (by decide +kernel), by unfold OffsetAccepted; decide +kernel,
    by unfold OffsetAccepted; decide +kernel, rfl, writesAt_cellAt _ 0x2000 rfl⟩
/-- A refused command at its final writes, with its record not yet read TAKEN, in a pass or in none. -/
def finishing (pass : Option Pass) (rescan : Bool) : State :=
  { running with command := { resetCommand with
      rescan := rescan, pass := pass
      inFlight := some { flight 0 with phase := .finishing 17 4 (List.replicate 32 0) } } }

/-- The pass goes on, is stopped, is at its 16th record with or without another to follow, or is absent;
and a final write that may fail. -/
theorem witness_CompletionWritesResult :
    let p (n : Nat) : Pass := { index := 1, examined := n, last := none, since := 0 }
    ((finishing (some (p 1)) false).command.inFlight.map (·.phase)) = some (.finishing 17 4 (List.replicate 32 0)) ∧
      ((p 1).examined + 1 < 16 ∧ (finishing (some (p 1)) false).regs.stopping = false ∧
        (fencedAfter (finishing (some (p 1)) false) (flight 0)).fenced.commands = false) ∧
      stopping.regs.stopping = true ∧ ¬((p 15).examined + 1 < 16) ∧
      ((finishing (some (p 15)) true).command.rescan = true ∧ (finishing (some (p 15)) false).command.rescan = false) ∧
      (finishing none false).command.pass = none ∧
      WritesAt (finishing none false) 0x40 (finalCells running.regs 1 17 4 (List.replicate 32 0)) :=
  ⟨by decide +kernel, by decide +kernel, rfl, by decide, ⟨rfl, rfl⟩, rfl,
    (hostAddress running.regs 0x40, 4), by decide +kernel, rfl⟩
/-- A pen sample on offer. -/
def sampling : State :=
  { running with penOut := { resetPenPublisher with
      pending := some ({ state := .hover, tool := .pen, button1 := false, button2 := false, pos := ⟨0, 0⟩, bank := .a, pressure := 0
                         tiltX := 0, tiltY := 0, hover := 9, flags := noPenFlags, time := 0 }, 0)
      access := .reading 0 } }

/-- An entry of an id. -/
def entryWith (id : Nat) : Entry := { entryOf (contactAt 0 .finger) with id := id }

theorem witness_SlotsArePublished :
    (([entryWith 3, entryWith 5].map (·.id)).Nodup ∧ ([entryWith 5, entryWith 9].map (·.id)).Nodup) ∧
    ([entryWith 3, entryWith 5].length ≤ 16 ∧ (frameSlotCells running.regs .pad 0 0
      { entries := [entryWith 3], time := 5, bank := .a, flags := noFrameFlags, merged := 0 }).length = 56) ∧
    (resetPenPublisher.access = .none ∧ resetPenPublisher.handed = []) ∧
    (WritesAt running 0x1000 (cellAt 0x1000) ∧ WritesAt running 0xDC0 (cellAt 0xDC0)) ∧
    (offered.pad.publisher.access = .reading 0 ∧ offered.pad.publisher.pending.isSome = true ∧ offered.pad.publisher.handed = []) ∧
      (({ offered with pad := { offered.pad with publisher := { offered.pad.publisher with access := .writing [(9, 1)] } } } : State).pad.publisher.access =
        .writing [(9, 1)]) ∧
      (sampling.penOut.access = .reading 0 ∧ sampling.penOut.pending.isSome = true ∧ sampling.penOut.handed = []) ∧
      (({ sampling with penOut := { sampling.penOut with access := .writing [(9, 1)] } } : State).penOut.access = .writing [(9, 1)]) :=
  ⟨by decide +kernel, by decide +kernel, by decide +kernel,
    ⟨writesAt_cellAt _ 0x1000 rfl, writesAt_cellAt _ 0xDC0 rfl⟩, by decide +kernel⟩
/-- A GESTURE_STEP of an instance. -/
def stepOf (inst : Nat) : Event :=
  { kind := .gestureStep, type := 1, fingers := 2, outcome := 0, inst := inst, steps := 1, dx := 3, dy := 0, span := 0, time := 0 }

/-- A new event that joins the youngest, and one that does not, at a queue with room, a full queue with a step
and one without. -/
theorem witness_Holds :
    let step := stepOf 1
    let note := wakeEvent 1 1 0
    ([note, step] = [note] ++ [step] ∧ step.kind = .gestureStep ∧ step.inst = (stepOf 1).inst) ∧
      (∀ y, [note].getLast? = some y → ¬(y.kind = .gestureStep ∧ step.kind = .gestureStep ∧ y.inst = step.inst)) ∧
      (List.replicate 8 note).length = 8 ∧ (∀ z ∈ List.replicate 8 note, z.kind ≠ .gestureStep) := by decide +kernel
theorem witness_EventStripWritesInOrder :
    (noting.events.access = .reading (some (wakeEvent 2 0 0)) 0 ∧ noting.events.queue = [] ∧ noting.events.handed = []) ∧
      ({ resetEventPublisher with queue := [wakeEvent 1 1 0], access := .reading none 0 } : EventPublisher).queue.head? =
        some (wakeEvent 1 1 0) ∧
      (resetEventPublisher.access = .none ∧ resetEventPublisher.handed = [] ∧ ({ noFences with events := true }).events = true) ∧
      (let s : State := { running with events := { resetEventPublisher with access := .writing none true (cellAt 0x800) } }
       s.events.access = .writing none true (cellAt 0x800) ∧ s.events.handed = [] ∧ WritesAt s 0x800 (cellAt 0x800)) ∧
      (let p : EventPublisher := { resetEventPublisher with
         queue := [wakeEvent 1 1 0], access := .writing (some (wakeEvent 2 0 0)) true (cellAt 0x800), handed := [none] }
       p.access = .writing (some (wakeEvent 2 0 0)) true (cellAt 0x800) ∧ p.queue ≠ [] ∧ p.queue.tail = [] ∧
       p.handed = none :: []) :=
  ⟨by decide +kernel, by decide +kernel, by decide +kernel, ⟨rfl, rfl, writesAt_cellAt _ 0x800 rfl⟩, by decide +kernel⟩
theorem witness_FailedReadsFenceTheirStream :
    (offered.pad.publisher.access = .reading 0 ∧ offered.pad.publisher.handed = [] ∧
      (0x1000#32).toNat = frameSlotOffset .pad offered.pad.publisher.index) ∧
      (sampling.penOut.access = .reading 0 ∧ (0xC00#32).toNat = 0x0C00 + 64 * sampling.penOut.index) ∧
      (noting.events.access = .reading (some (wakeEvent 2 0 0)) 0 ∧ noting.events.handed = [] ∧
        (0x800#32).toNat = 0x0800 + 32 * noting.events.position) ∧
      ((examining 15).command.pass.isSome = true ∧ (examining 15).command.inFlight = none ∧ (0#32).toNat = 64 * 0) ∧
      readSince .eventKindRead noting = some 0 ∧ 10000 ≤ (10000 - 0 : Time).toNat ∧ (9999 - 0 : Time).toNat < 10000 := by
  decide +kernel
/-- The data reads of a LOAD_BANK, its first and its second entry, and of a LOAD_ZONES. -/
theorem witness_FailedDataReads :
    (InFlightAs (commanded (posted 1 1 0)) 1 (flight (posted 1 1 0)) ∧ (commanded (posted 1 1 0)).posture.staging = none ∧
      OffsetAccepted (recordOffset (posted 1 1 0)) 8 ∧ (0x2000#32).toNat = recordOffset (posted 1 1 0)) ∧
      (let g : Staging := { bank := defaultBank, count := 2, applied := 1, skipped := 0, clamped := 0 }
       (0x2010#32).toNat = recordOffset (posted 1 1 0) + 8 + 8 * g.applied) ∧
      InFlightAs (commanded (posted 2 0 1)) 2 (flight (posted 2 0 1)) ∧ OffsetAccepted (recordOffset (posted 2 0 1)) (16 * 1) ∧
      (0 < numAt (posted 2 0 1) 5 ∧ (0x2000#32).toNat = recordOffset (posted 2 0 1) + 16 * 0) :=
  ⟨⟨inFlight_commanded 1 1 0 (by decide +kernel), rfl, by unfold OffsetAccepted; decide +kernel, by decide +kernel⟩,
    by decide +kernel, inFlight_commanded 2 0 1 (by decide +kernel), by unfold OffsetAccepted; decide +kernel, by decide +kernel⟩
theorem witness_FaultRecordedSetsFault :
    (recording true false).fault.write.isSome = true ∧ (recording true false).fault.stored.isSome = true ∧
      (recording false true).fault.write.isSome = true := by decide +kernel

end Sys2Proof.Tests
end

section
/-! The frame links (sections 1.1 and 1.2): what the three link words do outside HALTED (R1, R3), that
they do nothing in HALTED, and how the entry into HALTED and the resets leave the decoders (R4). -/

namespace Sys2Proof.Machine

/-! ### A word on a link -/

/-- What the three link words share: `f` moves the surface's unit, except in HALTED (R4). -/
def onLink (s : State) (sf : Surface) (f : SurfaceUnit → SurfaceUnit) : Host.Outcome State Fault Refusal :=
  if s.regs.state = .halted then .next s else .next (withSurface s sf (f (surfaceOf s sf)))

theorem exec_startWord (sf : Surface) (k : BitVec 8) (s : State) :
    exec (.startWord sf k) s = onLink s sf (startOn s k) := rfl
theorem exec_cellWord (sf : Surface) (v : BitVec 13) (s : State) :
    exec (.cellWord sf v) s = onLink s sf (cellOn s sf v) := rfl
theorem exec_endWord (sf : Surface) (s : State) : exec (.endWord sf) s = onLink s sf (endOn s sf) := rfl

theorem onLink_of_halted {s : State} (h : s.regs.state = .halted) (sf : Surface) (f : SurfaceUnit → SurfaceUnit) :
    onLink s sf f = .next s := if_pos h

theorem onLink_of_not_halted {s : State} (h : s.regs.state ≠ .halted) {sf : Surface} {f : SurfaceUnit → SurfaceUnit}
    {u : SurfaceUnit} (hf : f (surfaceOf s sf) = u) : onLink s sf f = .next (withSurface s sf u) := by
  rw [onLink, if_neg h, hf]

@[simp] theorem withSurface_surfaceOf (s : State) (sf : Surface) : withSurface s sf (surfaceOf s sf) = s := by
  cases sf <;> rfl

/-! ### Link errors (R3) -/

theorem countsLinkErrors_iff (s : State) (u : SurfaceUnit) :
    countsLinkErrors s u = true ↔ (s.regs.state = .running ∨ s.regs.state = .doze) ∧ u.state ≠ .inactive := by
  simp [countsLinkErrors, isRunning]

theorem linkCount_eq (s : State) (u : SurfaceUnit) (n : Nat) :
    linkCount s u n = if countsLinkErrors s u then bump16 n else n :=
  if_congr (countsLinkErrors_iff s u).symm rfl rfl

theorem raiseShort_eq (s : State) (u : SurfaceUnit) :
    raiseShort s u = { u with counters := { u.counters with short := linkCount s u u.counters.short } } := by
  rw [raiseShort, linkCount_eq]
  split <;> rfl

theorem raiseLong_eq (s : State) (u : SurfaceUnit) :
    raiseLong s u = { u with counters := { u.counters with long := linkCount s u u.counters.long } } := by
  rw [raiseLong, linkCount_eq]
  split <;> rfl

theorem raiseOrphan_eq (s : State) (u : SurfaceUnit) :
    raiseOrphan s u = { u with counters := { u.counters with orphan := linkCount s u u.counters.orphan } } := by
  rw [raiseOrphan, linkCount_eq]
  split <;> rfl

/-! ### The rows of Table 1-2 -/

/-- START: the decoder opens; a SHORT if it was OPEN. -/
theorem startOn_eq (s : State) (k : BitVec 8) (u : SurfaceUnit) :
    startOn s k u =
      { u with
        decoder := .opened k []
        counters := match u.decoder with
          | .opened _ _ => { u.counters with short := linkCount s u u.counters.short }
          | .idle => u.counters
          | .skipping => u.counters } := by
  unfold startOn
  cases u.decoder with
  | idle => rfl
  | opened j cells => rw [raiseShort_eq]
  | skipping => rfl

/-- CELL: an ORPHAN in IDLE; in OPEN one more cell, or a LONG if the grid is full. -/
theorem cellOn_eq (s : State) (sf : Surface) (v : BitVec 13) (u : SurfaceUnit) :
    cellOn s sf v u =
      match u.decoder with
      | .idle => { u with decoder := .skipping, counters := { u.counters with orphan := linkCount s u u.counters.orphan } }
      | .opened k cells =>
        if cells.length < Config.cells sf then { u with decoder := .opened k (cells ++ [v.toInt]) }
        else { u with decoder := .skipping, counters := { u.counters with long := linkCount s u u.counters.long } }
      | .skipping => u := by
  unfold cellOn
  cases u.decoder with
  | idle => rw [raiseOrphan_eq]
  | opened k cells => rw [raiseLong_eq]
  | skipping => rfl

theorem endOn_of_idle (s : State) (sf : Surface) {u : SurfaceUnit} (h : u.decoder = .idle) :
    endOn s sf u =
      { u with decoder := .skipping, counters := { u.counters with orphan := linkCount s u u.counters.orphan } } := by
  simp only [endOn, h, raiseOrphan_eq]

theorem endOn_of_skipping (s : State) (sf : Surface) {u : SurfaceUnit} (h : u.decoder = .skipping) :
    endOn s sf u = u := by
  simp only [endOn, h]

theorem endOn_of_short_frame (s : State) {sf : Surface} {u : SurfaceUnit} {k : BitVec 8} {cells : List Int}
    (h : u.decoder = .opened k cells) (hlen : cells.length < Config.cells sf) :
    endOn s sf u =
      { u with decoder := .idle, counters := { u.counters with short := linkCount s u u.counters.short } } := by
  simp only [endOn, h, if_neg hlen.ne, raiseShort_eq]

theorem endOn_of_full_frame (s : State) {sf : Surface} {u : SurfaceUnit} {k : BitVec 8} {cells : List Int}
    (h : u.decoder = .opened k cells) (hlen : cells.length = Config.cells sf) :
    endOn s sf u = acceptFrame s k cells { u with decoder := .idle } := by
  simp only [endOn, h, if_pos hlen]

/-- The frame places never move the decoder (R5, R6, R8). -/
theorem offerFrame_decoder (f : Frame) (u : SurfaceUnit) : (offerFrame f u).decoder = u.decoder := by
  simp only [offerFrame]
  split
  case h_1 => rfl
  case h_2 => split <;> rfl

/-- Nor does a frame's acceptance, whether it is dropped, discarded or offered (R2, R9). -/
theorem acceptFrame_decoder (s : State) (k : BitVec 8) (cells : List Int) (u : SurfaceUnit) :
    (acceptFrame s k cells u).decoder = u.decoder := by
  unfold acceptFrame
  split
  case isTrue => rfl
  case isFalse =>
    split
    case isTrue => rfl
    case isFalse => exact offerFrame_decoder _ u

/-! ### Resets and the entry into HALTED -/

/-- Both resets lead to OFF with both decoders IDLE. -/
theorem links_of_reset {level : Bool} {s t : State}
    (h : exec (.powerOnReset level) s = .next t ∨ exec (.resetLine level) s = .next t) :
    t.regs.state = .off ∧ t.pad.decoder = .idle ∧ t.screen.decoder = .idle := by
  obtain h | h := h <;> cases h <;> exact ⟨rfl, rfl, rfl⟩

/-- A failed write of the fault record under way is the entry into HALTED (R198). -/
theorem exec_faultRecordWriteFailure_of_write {s : State} (h : s.fault.write.isSome = true) :
    exec .faultRecordWriteFailure s = .next (enterHalted s) := by
  change execFaultRecordWriteFailure s = _
  rw [execFaultRecordWriteFailure, if_pos h]

theorem enterHalted_runState (s : State) : (enterHalted s).regs.state = .halted := rfl

/-- The entry into HALTED takes each surface by itself (R14). -/
theorem surfaceOf_enterHalted (s : State) (sf : Surface) :
    surfaceOf (enterHalted s) sf = haltSurface (surfaceOf s sf) := by cases sf <;> rfl

theorem haltSurface_decoder (u : SurfaceUnit) : (haltSurface u).decoder = .idle := rfl
theorem haltSurface_counters (u : SurfaceUnit) : (haltSurface u).counters = u.counters := rfl

/-! ### The obligations -/

/-- Settles O25, row by row of Table 1-2. -/
theorem linkDecoderTable : Obligations.LinkDecoderTable := by
  refine ⟨fun sf s hrun => ⟨fun k => ?start, fun v => ?cell, fun h => ?endIdle, fun h => ?endSkipping,
    fun k cells h hlen => ?endShort, fun k cells h hlen => ⟨?endFull, ?accepted⟩⟩, fun _ _ _ h => (links_of_reset h).2⟩
  case start => exact (exec_startWord sf k s).trans (onLink_of_not_halted hrun (startOn_eq s k _))
  case cell => exact (exec_cellWord sf v s).trans (onLink_of_not_halted hrun (cellOn_eq s sf v _))
  case endIdle => exact (exec_endWord sf s).trans (onLink_of_not_halted hrun (endOn_of_idle s sf h))
  case endSkipping =>
    rw [exec_endWord, onLink_of_not_halted hrun (endOn_of_skipping s sf h), withSurface_surfaceOf]
  case endShort => exact (exec_endWord sf s).trans (onLink_of_not_halted hrun (endOn_of_short_frame s h hlen))
  case endFull => exact (exec_endWord sf s).trans (onLink_of_not_halted hrun (endOn_of_full_frame s h hlen))
  case accepted => exact acceptFrame_decoder s k cells _

/-- Settles O27: the words in HALTED, the entry into HALTED, the resets. -/
theorem haltedLinksIgnoreWords : Obligations.HaltedLinksIgnoreWords := by
  refine ⟨fun sf s hhalt => ⟨fun k => ?start, fun v => ?cell, ?endWord⟩, fun s hwrite => ?entry,
    fun _ _ _ h => links_of_reset h⟩
  case start => rw [exec_startWord, onLink_of_halted hhalt]
  case cell => rw [exec_cellWord, onLink_of_halted hhalt]
  case endWord => rw [exec_endWord, onLink_of_halted hhalt]
  case entry =>
    refine ⟨enterHalted s, exec_faultRecordWriteFailure_of_write hwrite, enterHalted_runState s, fun sf => ?_⟩
    rw [surfaceOf_enterHalted]
    exact ⟨haltSurface_decoder _, haltSurface_counters _⟩

end Sys2Proof.Machine
end

section
/-! The Contact Trackers at the resets and the changes of run state (Table 3-3, R66). First what the
commands of the state tables do to a surface's unit, then what that leaves of its tracker. -/

namespace Sys2Proof.Machine

/-! ### The surfaces at a reset (R24) -/

theorem exec_powerOnReset (level : Bool) (s : State) : exec (.powerOnReset level) s = .next (resetTo level s) := rfl

/-- Power-on reset clears the Clock and the area base too; the reset line keeps them. -/
theorem exec_resetLine (level : Bool) (s : State) :
    exec (.resetLine level) s = .next { resetTo level s with
      clock := s.clock
      regs := { resetRegisters with areaLo := s.regs.areaLo, areaHi := s.regs.areaHi } } := rfl

@[simp] theorem surfaceOf_resetTo (level : Bool) (s : State) (sf : Surface) :
    surfaceOf (resetTo level s) sf = resetSurface := by cases sf <;> rfl

/-- The Clock and the registers are no part of a surface. -/
theorem surfaceOf_clock_regs (s : State) (c : Time) (r : Registers) (sf : Surface) :
    surfaceOf { s with clock := c, regs := r } sf = surfaceOf s sf := by cases sf <;> rfl

/-! ### The surfaces at RUN set (R165) -/

/-- A start looks at no RUN field: it writes the field itself, and the field is no part of the area base. -/
theorem tryStart_run (s : State) (b : Bool) : tryStart { s with regs := { s.regs with run := b } } = tryStart s := rfl

/-- RUN set in OFF tries a start. -/
theorem exec_runSet_of_off {s : State} (hoff : s.regs.state = .off) (hrun : s.regs.run = false) :
    exec .runSet s = .next (tryStart s) := by
  have hclear : ¬ s.regs.run = true := by simp [hrun]
  have hlive : s.regs.state ≠ .halted := by simp [hoff]
  change execRunSet s = _
  rw [execRunSet, if_neg hlive, setRun, if_neg hclear, if_pos hoff, tryStart_run]

/-- A start with an accepted base takes each surface by itself (R14). -/
theorem surfaceOf_tryStart {s : State} (hbase : baseValid s.regs = true) (sf : Surface) :
    surfaceOf (tryStart s) sf = startSurface (currentEntry s.posture) sf (surfaceOf s sf) := by
  rw [tryStart, if_pos hbase]
  cases sf <;> rfl

/-- Both surfaces of a part at rest in OFF are at rest. -/
theorem surfaceAtRest_of_off {s : State} (hrest : AtRest s) (hoff : s.regs.state = .off) (sf : Surface) :
    SurfaceAtRest (surfaceOf s sf) := by
  obtain ⟨-, hpad, hscreen, -⟩ := hrest (.inl hoff)
  cases sf with
  | pad => exact hpad
  | screen => exact hscreen

/-! ### The surfaces at the end of a stop (R166) -/

/-- A stop that can end with RUN clear leads to OFF. -/
theorem exec_stopEnd_of_done {s : State} (hdone : stopDone s = true) (hrun : s.regs.run = false) :
    exec .stopEnd s = .next (stopped s) := by
  have hclear : ¬ s.regs.run = true := by simp [hrun]
  change execStopEnd s = _
  rw [execStopEnd, if_pos hdone, endStop, if_neg hclear]

/-- A surface's live finger enable after a stop: the screen's comes back from a suspension (Table 4-4). -/
def enableAfterStop (s : State) : Surface → Bool
  | .pad => s.pad.enable
  | .screen => if s.suspension.applied then s.suspension.saved else s.screen.enable

/-- The end of a stop takes each surface by itself, but for the suspension of the screen's enable. -/
theorem surfaceOf_stopped (s : State) (sf : Surface) :
    surfaceOf (stopped s) sf = { stopSurface (surfaceOf s sf) with enable := enableAfterStop s sf } := by
  cases sf <;> rfl

/-! ### What is left of a tracker (Table 3-3) -/

/-- The column that RUN set, the end of a stop and the entry into HALTED share: no contact, no closing
list, no clear request, and the tracker's own items kept. -/
def TrackerCleared (u v : SurfaceUnit) : Prop :=
  v.table = [] ∧ v.closing = [] ∧ v.clearReq = false ∧ TrackerKept u v

/-- A start touches nothing of the tracker, which is empty before it. -/
theorem startSurface_trackerCleared {u : SurfaceUnit} (hrest : SurfaceAtRest u) (e : MapEntry) (sf : Surface) :
    TrackerCleared u (startSurface e sf u) := by
  obtain ⟨-, -, -, htable, hclosing, hclear, -⟩ := hrest
  exact ⟨htable, hclosing, hclear, rfl, rfl, rfl⟩

/-- Emptying a surface ends its contacts without handover (R64, R65). -/
theorem emptySurface_trackerCleared (u : SurfaceUnit) : TrackerCleared u (emptySurface u) :=
  ⟨rfl, rfl, rfl, rfl, rfl, rfl⟩

/-- What a stop adds to the emptying is outside the tracker. -/
theorem stopSurface_trackerCleared (u : SurfaceUnit) (enable : Bool) :
    TrackerCleared u { stopSurface u with enable := enable } := emptySurface_trackerCleared u

/-- What the entry into HALTED adds to the emptying is outside the tracker. -/
theorem haltSurface_trackerCleared (u : SurfaceUnit) : TrackerCleared u (haltSurface u) :=
  emptySurface_trackerCleared u

/-! ### The obligation -/

/-- Settles O18, column by column of Table 3-3. -/
theorem trackerStateTable : Obligations.TrackerStateTable := by
  refine ⟨fun level s => ?powerOn, fun level s => ?line, fun s hoff hrun hbase hrest => ?runSet,
    fun s hdone hrun => ?stopEnd, fun s hwrite => ?halted⟩
  case powerOn =>
    refine ⟨_, exec_powerOnReset level s, fun sf => ?_⟩
    rw [surfaceOf_resetTo]
    exact ⟨rfl, rfl, rfl, rfl, rfl, rfl⟩
  case line =>
    refine ⟨_, exec_resetLine level s, fun sf => ?_⟩
    rw [surfaceOf_clock_regs, surfaceOf_resetTo]
    exact ⟨rfl, rfl, rfl, rfl, rfl, rfl⟩
  case runSet =>
    refine ⟨_, exec_runSet_of_off hoff hrun, fun sf => ?_⟩
    rw [surfaceOf_tryStart hbase]
    exact startSurface_trackerCleared (surfaceAtRest_of_off hrest hoff sf) _ sf
  case stopEnd =>
    refine ⟨_, exec_stopEnd_of_done hdone hrun, fun sf => ?_⟩
    rw [surfaceOf_stopped]
    exact stopSurface_trackerCleared _ _
  case halted =>
    refine ⟨_, exec_faultRecordWriteFailure_of_write hwrite, fun sf => ?_⟩
    rw [surfaceOf_enterHalted]
    exact haltSurface_trackerCleared _

end Sys2Proof.Machine
end

section
/-! The Pen Channel at the resets and the changes of run state (Table 5-4, R110). First what a reset and
the closing of the channel leave of it, then which of them the commands of the state tables do. -/

namespace Sys2Proof.Machine

/-! ### The columns of Table 5-4 -/

/-- The reset column: closed and away, nothing remembered, nothing counted. -/
def PenReset (c : PenChannel) : Prop :=
  PenAtRest c ∧ c.count = 0 ∧ c.lastPos = none ∧ c.last = none ∧ c.tool = .pen ∧ c.linkErrors = 0 ∧ c.timeouts = 0

/-- The column that RUN set, the end of a stop and the entry into HALTED share: from `c` to `d` the channel
is closed and away, and its activation count, last sample, tool and counters are kept. -/
def PenClosed (c d : PenChannel) : Prop := PenAtRest d ∧ PenKept c d

theorem resetPen_penReset : PenReset resetPen :=
  ⟨⟨rfl, rfl, rfl, rfl, rfl, rfl, rfl⟩, rfl, rfl, rfl, rfl, rfl, rfl⟩

/-- A channel at rest that is left as it is. -/
theorem PenAtRest.penClosed_self {c : PenChannel} (h : PenAtRest c) : PenClosed c c :=
  ⟨h, rfl, rfl, rfl, rfl, rfl, rfl⟩

/-- The closing ends whatever the channel was doing and keeps the rest (R107). -/
theorem closeChannel_penClosed (t : Time) (c : PenChannel) : PenClosed c (closeChannel t c).channel :=
  ⟨⟨rfl, rfl, rfl, rfl, rfl, rfl, rfl⟩, rfl, rfl, rfl, rfl, rfl, rfl⟩

/-! ### The channel of the part -/

theorem resetTo_pen (level : Bool) (s : State) : (resetTo level s).pen = resetPen := rfl
theorem stopped_pen (s : State) : (stopped s).pen = (closeChannel s.clock s.pen).channel := rfl
theorem enterHalted_pen (s : State) : (enterHalted s).pen = (closeChannel s.clock s.pen).channel := rfl

theorem resetTo_penReset (level : Bool) (s : State) : PenReset (resetTo level s).pen := by
  rw [resetTo_pen]
  exact resetPen_penReset

/-- The channel of a part at rest in OFF is closed and away. -/
theorem penAtRest_of_off {s : State} (hrest : AtRest s) (hoff : s.regs.state = .off) : PenAtRest s.pen := by
  obtain ⟨-, -, -, hpen, -⟩ := hrest (.inl hoff)
  exact hpen

/-- A start touches nothing of the channel, which is at rest before it (R165). -/
theorem tryStart_penClosed {s : State} (hrest : AtRest s) (hoff : s.regs.state = .off) :
    PenClosed s.pen (tryStart s).pen := by
  rw [tryStart_pen]
  exact (penAtRest_of_off hrest hoff).penClosed_self

theorem stopped_penClosed (s : State) : PenClosed s.pen (stopped s).pen := by
  rw [stopped_pen]
  exact closeChannel_penClosed s.clock s.pen

theorem enterHalted_penClosed (s : State) : PenClosed s.pen (enterHalted s).pen := by
  rw [enterHalted_pen]
  exact closeChannel_penClosed s.clock s.pen

/-! ### The obligation -/

/-- Settles O20, column by column of Table 5-4: the resets clear the channel, RUN set finds it at rest, the
end of a stop and the entry into HALTED close it. -/
theorem penChannelStateTable : Obligations.PenChannelStateTable := by
  refine ⟨fun level s => ?powerOn, fun level s => ?line, fun s hoff hrun _ hrest => ?runSet,
    fun s hdone hrun => ?stopEnd, fun s hwrite => ?halted⟩
  case powerOn => exact ⟨_, exec_powerOnReset level s, resetTo_penReset level s⟩
  case line => exact ⟨_, exec_resetLine level s, resetTo_penReset level s⟩
  case runSet => exact ⟨_, exec_runSet_of_off hoff hrun, tryStart_penClosed hrest hoff⟩
  case stopEnd => exact ⟨_, exec_stopEnd_of_done hdone hrun, stopped_penClosed s⟩
  case halted => exact ⟨_, exec_faultRecordWriteFailure_of_write hwrite, enterHalted_penClosed s⟩

end Sys2Proof.Machine
end

section
/-! The clock latch and the area base: what every command but the four that name them leaves as it was
(R163, R164). The latch is moved by no operation below the commands; the base is a part of the registers,
most operations keep the registers whole, and the others move the run state, the causes, the mask or the
fences beside it. -/

namespace Sys2Proof.Machine

/-! ### The area base under the operations that write registers -/

@[simp] theorem setCause_areaBase (s : State) (c : Cause) : areaBase (setCause s c).regs = areaBase s.regs := rfl
@[simp] theorem fence_areaBase (s : State) (t : Stream) : areaBase (fence s t).regs = areaBase s.regs := rfl
@[simp] theorem failStream_areaBase (s : State) (t : Stream) (w : Bool) (o : Nat) :
    areaBase (failStream s t w o).regs = areaBase s.regs := rfl
@[simp] theorem writeMask_areaBase (m : BitVec 7) (s : State) : areaBase (writeMask m s).regs = areaBase s.regs := rfl
@[simp] theorem beginStop_areaBase (s : State) : areaBase (beginStop s).regs = areaBase s.regs := rfl
@[simp] theorem stopped_areaBase (s : State) : areaBase (stopped s).regs = areaBase s.regs := rfl
@[simp] theorem enterHalted_areaBase (s : State) : areaBase (enterHalted s).regs = areaBase s.regs := rfl
@[simp] theorem endDoze_areaBase (s : State) : areaBase (endDoze s).regs = areaBase s.regs := rfl

@[simp] theorem beginDoze_areaBase (s : State) : areaBase (beginDoze s).regs = areaBase s.regs := by
  simp only [beginDoze]
  split <;> rfl

@[simp] theorem tryStart_areaBase (s : State) : areaBase (tryStart s).regs = areaBase s.regs := by
  unfold tryStart
  split <;> rfl

/-- RUN, written with or without a start, is no part of the base. -/
@[simp] theorem setRun_areaBase (s : State) : areaBase (setRun s).regs = areaBase s.regs := by
  unfold setRun
  split
  case isTrue => rfl
  case isFalse =>
    split
    case isTrue => exact tryStart_areaBase _
    case isFalse => rfl

@[simp] theorem clearRun_areaBase (s : State) : areaBase (clearRun s).regs = areaBase s.regs := by
  unfold clearRun
  split
  case isTrue => split <;> rfl
  case isFalse => rfl

@[simp] theorem reopen_areaBase (s : State) : areaBase (reopen s).regs = areaBase s.regs := by
  simp only [reopen]
  split
  case isTrue => rw [takeRescan_regs]; rfl
  case isFalse => rfl

@[simp] theorem clearCauses_areaBase (ones : BitVec 7) (s : State) :
    areaBase (clearCauses ones s).regs = areaBase s.regs := by
  simp only [clearCauses]
  split
  case isTrue => exact reopen_areaBase _
  case isFalse => rfl

@[simp] theorem writeControl_areaBase (v : BitVec 32) (s : State) :
    areaBase (writeControl v s).regs = areaBase s.regs := by
  simp only [writeControl]
  (repeat' split) <;> simp

@[simp] theorem releaseCommand_areaBase (f : InFlight) (s : State) :
    areaBase (releaseCommand f s).regs = areaBase s.regs := by
  simp only [releaseCommand]
  split <;> simp

@[simp] theorem complete_areaBase (s : State) : areaBase (complete s).regs = areaBase s.regs := by
  unfold complete
  (repeat' split) <;> simp

@[simp] theorem reportWake_areaBase (k n : Nat) (t : Time) (s : State) :
    areaBase (reportWake k n t s).regs = areaBase s.regs := by
  unfold reportWake
  split <;> rfl

@[simp] theorem watchFrame_areaBase (sf : Surface) (st : FrameStart) (f : Frame) (s : State) :
    areaBase (watchFrame sf st f s).regs = areaBase s.regs := by
  simp only [watchFrame]
  (repeat' split) <;> simp

@[simp] theorem processFrame_areaBase (sf : Surface) (st : FrameStart) (f : Frame) (s : State) :
    areaBase (processFrame sf st f s).regs = areaBase s.regs := by
  unfold processFrame
  (repeat' split) <;> simp

/-! ### Latch and base together -/

/-- From `s` to `t` neither the clock latch nor the area base has moved. -/
def LatchAndBaseKept (s t : State) : Prop := t.latch = s.latch ∧ areaBase t.regs = areaBase s.regs

theorem LatchAndBaseKept.refl (s : State) : LatchAndBaseKept s s := ⟨rfl, rfl⟩

/-- Whatever keeps the registers whole keeps the base. -/
theorem LatchAndBaseKept.of_regs {s t : State} (hlatch : t.latch = s.latch) (hregs : t.regs = s.regs) :
    LatchAndBaseKept s t := ⟨hlatch, congrArg areaBase hregs⟩

theorem LatchAndBaseKept.ite {s t u : State} {p : Prop} [Decidable p] (ht : LatchAndBaseKept s t)
    (hu : LatchAndBaseKept s u) : LatchAndBaseKept s (if p then t else u) := by
  split
  case isTrue => exact ht
  case isFalse => exact hu

/-! ### Run control and registers -/

theorem setRun_latchAndBaseKept (s : State) : LatchAndBaseKept s (setRun s) := ⟨setRun_latch s, setRun_areaBase s⟩
theorem clearRun_latchAndBaseKept (s : State) : LatchAndBaseKept s (clearRun s) :=
  ⟨clearRun_latch s, clearRun_areaBase s⟩
theorem clearCauses_latchAndBaseKept (ones : BitVec 7) (s : State) : LatchAndBaseKept s (clearCauses ones s) :=
  ⟨clearCauses_latch ones s, clearCauses_areaBase ones s⟩

@[simp] theorem stopped_latch (s : State) : (stopped s).latch = s.latch := rfl

theorem endStop_latchAndBaseKept (s : State) : LatchAndBaseKept s (endStop s) :=
  .ite ⟨by simp, by simp⟩ ⟨rfl, rfl⟩

@[simp] theorem writeControl_latch (v : BitVec 32) (s : State) : (writeControl v s).latch = s.latch := by
  simp only [writeControl, writeMask]
  (repeat' split) <;> simp

/-- A write to a register named by its offset, which HALTED ignores (R160). -/
theorem exec_registerWrite (offset : BitVec 8) (v : BitVec 32) (s : State) :
    exec (.registerWrite offset v) s = .next (if s.regs.state = .halted then s else writeRegister offset v s) :=
  (apply_ite Host.Outcome.next _ _ _).symm

/-! ### Frames, pen and deadlines -/

theorem execFrameStart_cases (sf : Surface) (s : State) :
    (∃ t, execFrameStart sf s = .next (startFrame sf t s)) ∨ execFrameStart sf s = .next s := by
  unfold execFrameStart
  split
  case isTrue =>
    split
    case h_1 => exact .inl ⟨_, rfl⟩
    case h_2 => exact .inr rfl
  case isFalse => exact .inr rfl

theorem execFrameProcessingEnd_cases (sf : Surface) (s : State) :
    (∃ st f, execFrameProcessingEnd sf s =
      .next (drainEvents (updateSurface (processFrame sf st f s) sf nextFrame))) ∨
    execFrameProcessingEnd sf s = .next s := by
  unfold execFrameProcessingEnd
  split
  case isTrue =>
    split
    case h_1 =>
      split
      case isTrue => exact .inl ⟨_, _, rfl⟩
      case isFalse => exact .inr rfl
    case h_2 => exact .inr rfl
  case isFalse => exact .inr rfl

theorem countMalformed_latchAndBaseKept (s : State) : LatchAndBaseKept s (countMalformed s) :=
  .ite ⟨rfl, rfl⟩ (.refl s)

theorem takeRecord_latchAndBaseKept (r : PenRecord) (s : State) : LatchAndBaseKept s (takeRecord r s) :=
  .ite ⟨by simp, by simp⟩ ⟨by simp, by simp⟩

theorem expirePenTimeout_latchAndBaseKept (s : State) : LatchAndBaseKept s (expirePenTimeout s) :=
  .of_regs (handPen_latch _ _) (handPen_regs _ _)

/-! ### The command list -/

/-- An event of the command in flight keeps what its body keeps. -/
theorem perform_latchAndBaseKept (kind : Nat) {body : InFlight → State → State} {s : State}
    (hbody : ∀ f, LatchAndBaseKept s (body f s)) : LatchAndBaseKept s (perform kind body s) := by
  obtain ⟨f, -, -, -, hf⟩ | hsame := perform_cases kind body s
  · rw [hf]; exact hbody f
  · rw [hsame]; exact .refl s

theorem setPosture_latchAndBaseKept (f : InFlight) (s : State) : LatchAndBaseKept s (setPosture f s) :=
  .ite (.of_regs (finishOk_latch f s) (finishOk_regs f s)) (.of_regs (by simp) (by simp))

theorem setSurface_latchAndBaseKept (f : InFlight) (s : State) : LatchAndBaseKept s (setSurface f s) := by
  simp only [setSurface]
  (repeat' split) <;> exact .of_regs (by simp) (by simp)

theorem clearTracking_latchAndBaseKept (f : InFlight) (s : State) : LatchAndBaseKept s (clearTracking f s) :=
  .of_regs (by simp [clearTracking]) (by simp [clearTracking])

@[simp] theorem beginDoze_latch (s : State) : (beginDoze s).latch = s.latch := by
  simp only [beginDoze]
  split <;> rfl

@[simp] theorem endDoze_latch (s : State) : (endDoze s).latch = s.latch := by
  simp only [endDoze]
  split <;> rfl

theorem sleep_latchAndBaseKept (f : InFlight) (s : State) : LatchAndBaseKept s (sleep f s) := by
  unfold sleep
  split <;> exact ⟨by simp, by simp⟩

theorem wake_latchAndBaseKept (f : InFlight) (s : State) : LatchAndBaseKept s (wake f s) := by
  unfold wake
  split <;> exact ⟨by simp, by simp⟩

theorem takeSnapshotRecord_latchAndBaseKept (f : InFlight) (s : State) :
    LatchAndBaseKept s (takeSnapshotRecord f s) :=
  .ite (.of_regs (finishOk_latch _ s) (finishOk_regs _ s)) (.of_regs (finish_latch _ _ _ f s) (finish_regs _ _ _ f s))

/-! ### The Publisher's accesses -/

theorem readFrameSlot_latchAndBaseKept (sf : Surface) (b : Byte) (s : State) :
    LatchAndBaseKept s (readFrameSlot sf b s) := by
  simp only [readFrameSlot]
  (repeat' split) <;> exact .of_regs (by simp) (by simp)

theorem publishFrame_latchAndBaseKept (sf : Surface) (s : State) : LatchAndBaseKept s (publishFrame sf s) := by
  simp only [publishFrame]
  split <;> exact ⟨by simp, by simp⟩

theorem readPenSlot_latchAndBaseKept (b : Byte) (s : State) : LatchAndBaseKept s (readPenSlot b s) := by
  unfold readPenSlot
  (repeat' split) <;> exact ⟨rfl, rfl⟩

theorem publishSample_latchAndBaseKept (s : State) : LatchAndBaseKept s (publishSample s) := by
  unfold publishSample
  split <;> exact ⟨rfl, rfl⟩

theorem readEventKind_latchAndBaseKept (k : Byte) (s : State) : LatchAndBaseKept s (readEventKind k s) := by
  simp only [readEventKind]
  (repeat' split) <;> exact ⟨rfl, rfl⟩

theorem publishEvent_latchAndBaseKept (s : State) : LatchAndBaseKept s (publishEvent s) := by
  unfold publishEvent
  split <;> exact ⟨by simp, by simp⟩

/-! ### Failures and the fault record -/

/-- A failure's report and fence, and what its stream does next, move neither (R195, R196). -/
theorem failAccess_latchAndBaseKept (acc : Access) (o : Nat) (s : State) :
    LatchAndBaseKept s (failAccess acc o s) := by
  cases acc with
  | penSlotRead | penSlotWrite | eventKindRead | eventWrite =>
    simp only [failAccess, failPenRead, failPenWrite, failEventRead, failEventWrite]
    (repeat' split) <;> exact ⟨rfl, rfl⟩
  | frameSlotRead | frameSlotWrite | recordRead | takenWrite | finalWrite =>
    simp only [failAccess, failFrameRead, failFrameWrite, failRecordRead, failTaken, failFinalWrite]
    (repeat' split) <;> exact ⟨by simp, by simp⟩
  | dataRead | snapshotWrite =>
    simp only [failAccess, failDataRead, failSnapshotWrite]
    (repeat' split) <;> exact .of_regs (by simp) (by simp)

theorem recordWritten_latchAndBaseKept (s : State) : LatchAndBaseKept s (recordWritten s) := by
  simp only [recordWritten]
  (repeat' split) <;> exact ⟨rfl, rfl⟩

theorem enterHalted_latchAndBaseKept (s : State) : LatchAndBaseKept s (enterHalted s) := ⟨rfl, rfl⟩

/-! ### Every command -/

/-- The commands that may move the latch or the area base: the resets, a read of CLOCK_LO, and a write to a
register named by its offset. -/
def movesLatchOrBase : Instr → Bool
  | .powerOnReset _ | .resetLine _ | .clockLoRead | .registerWrite _ _ => true
  | _ => false

/-- An outcome that keeps the latch and the base of `s`, when it is a next state. -/
def OutcomeKeeps (s : State) (o : Host.Outcome State Fault Refusal) : Prop := ∀ t, o = .next t → LatchAndBaseKept s t

theorem OutcomeKeeps.next {s t : State} (h : LatchAndBaseKept s t) : OutcomeKeeps s (.next t) := by
  rintro _ ⟨⟩
  exact h

theorem OutcomeKeeps.ite {s : State} {o q : Host.Outcome State Fault Refusal} {p : Prop} [Decidable p]
    (ho : OutcomeKeeps s o) (hq : OutcomeKeeps s q) : OutcomeKeeps s (if p then o else q) := by
  split
  case isTrue => exact ho
  case isFalse => exact hq

/-- HALTED ignores a command, or it is taken. -/
theorem OutcomeKeeps.unlessHalted {s t : State} (h : LatchAndBaseKept s t) :
    OutcomeKeeps s (if s.regs.state = .halted then .next s else .next t) :=
  .ite (.next (.refl s)) (.next h)

theorem onLink_outcomeKeeps (s : State) (sf : Surface) (g : SurfaceUnit → SurfaceUnit) :
    OutcomeKeeps s (onLink s sf g) :=
  .unlessHalted (.of_regs (withSurface_latch s sf _) (withSurface_regs s sf _))

theorem frameStart_outcomeKeeps (sf : Surface) (s : State) : OutcomeKeeps s (execFrameStart sf s) := by
  obtain ⟨t, h⟩ | h := execFrameStart_cases sf s
  · rw [h]; exact .next (.of_regs (startFrame_latch sf t s) (startFrame_regs sf t s))
  · rw [h]; exact .next (.refl s)

theorem frameProcessingEnd_outcomeKeeps (sf : Surface) (s : State) : OutcomeKeeps s (execFrameProcessingEnd sf s) := by
  obtain ⟨st, f, h⟩ | h := execFrameProcessingEnd_cases sf s
  · rw [h]; exact .next ⟨by simp, by simp⟩
  · rw [h]; exact .next (.refl s)

theorem exec_outcomeKeeps (c : Instr) (s : State) (hc : movesLatchOrBase c = false) : OutcomeKeeps s (exec c s) := by
  cases c with
  | powerOnReset | resetLine | clockLoRead | registerWrite => cases hc
  | startWord sf k => exact onLink_outcomeKeeps s sf _
  | cellWord sf v => exact onLink_outcomeKeeps s sf _
  | endWord sf => exact onLink_outcomeKeeps s sf _
  | frameStart sf => exact frameStart_outcomeKeeps sf s
  | frameProcessingEnd sf => exact frameProcessingEnd_outcomeKeeps sf s
  | penRecord r =>
    exact .ite (.next (countMalformed_latchAndBaseKept s)) (.ite (.next (takeRecord_latchAndBaseKept r s)) (.next (.refl s)))
  | penTimeoutExpiry => exact .next (.ite (expirePenTimeout_latchAndBaseKept s) (.refl s))
  | lingerExpiry => exact .next ⟨rfl, rfl⟩
  | keyactRisingEdge => exact .ite (.next (.refl s)) (.next ⟨rfl, rfl⟩)
  | keyactFallingEdge => exact .next ⟨rfl, rfl⟩
  | typingGuardExpiry => exact .next (.ite ⟨rfl, rfl⟩ (.refl s))
  | pendingTapExpiry => exact .next ⟨rfl, rfl⟩
  | dragLockExpiry => exact .next ⟨rfl, rfl⟩
  | clockTick => exact .next ⟨rfl, rfl⟩
  | runSet => exact .unlessHalted (setRun_latchAndBaseKept s)
  | runClear => exact .unlessHalted (clearRun_latchAndBaseKept s)
  | stopEnd => exact .next (.ite (endStop_latchAndBaseKept s) (.refl s))
  | notice => exact .next (.of_regs (takeNotice_latch s) (takeNotice_regs s))
  | attnMaskWrite mask => exact .unlessHalted ⟨rfl, rfl⟩
  | statusCauseClear v => exact .unlessHalted (clearCauses_latchAndBaseKept _ s)
  | faultClear => exact .unlessHalted (clearCauses_latchAndBaseKept _ s)
  | commandExamination r => exact .next (.of_regs (examine_latch r s) (examine_regs r s))
  | loadBank d => exact .next (perform_latchAndBaseKept 1 fun f => .of_regs (loadBank_latch d f s) (loadBank_regs d f s))
  | loadZones d => exact .next (perform_latchAndBaseKept 2 fun f => .of_regs (loadZones_latch d f s) (loadZones_regs d f s))
  | setPostureMap => exact .next (perform_latchAndBaseKept 3 fun f => .of_regs (finishOk_latch f _) (finishOk_regs f _))
  | setPosture => exact .next (perform_latchAndBaseKept 4 fun f => setPosture_latchAndBaseKept f s)
  | setSurface => exact .next (perform_latchAndBaseKept 5 fun f => setSurface_latchAndBaseKept f s)
  | setHand => exact .next (perform_latchAndBaseKept 6 fun f => .of_regs (finishOk_latch f _) (finishOk_regs f _))
  | setPublish => exact .next (perform_latchAndBaseKept 7 fun f => .of_regs (finishOk_latch f _) (finishOk_regs f _))
  | clearTracking => exact .next (perform_latchAndBaseKept 8 fun f => clearTracking_latchAndBaseKept f s)
  | sleep => exact .next (perform_latchAndBaseKept 9 fun f => sleep_latchAndBaseKept f s)
  | wake => exact .next (perform_latchAndBaseKept 10 fun f => wake_latchAndBaseKept f s)
  | snapshot => exact .next (perform_latchAndBaseKept 11 fun f => takeSnapshotRecord_latchAndBaseKept f s)
  | commandCompletion => exact .next ⟨complete_latch s, complete_areaBase s⟩
  | frameSlotStateRead sf b => exact .next (readFrameSlot_latchAndBaseKept sf b s)
  | frameSlotPublished sf => exact .next (publishFrame_latchAndBaseKept sf s)
  | penSlotStateRead b => exact .next (readPenSlot_latchAndBaseKept b s)
  | penSlotPublished => exact .next (publishSample_latchAndBaseKept s)
  | eventKindRead k => exact .next (readEventKind_latchAndBaseKept k s)
  | eventPublished => exact .next (publishEvent_latchAndBaseKept s)
  | accessFailure acc o => exact .next (failAccess_latchAndBaseKept acc o.toNat s)
  | readTimeout acc o => exact .next (.ite (failAccess_latchAndBaseKept acc o.toNat s) (.refl s))
  | faultRecorded => exact .next (recordWritten_latchAndBaseKept s)
  | faultRecordWriteFailure => exact .next (.ite (enterHalted_latchAndBaseKept s) (.refl s))

/-- What a step did to the latch and the base, for a command that does not name them. -/
theorem exec_latchAndBaseKept {c : Instr} {s t : State} (h : exec c s = .next t) (hc : movesLatchOrBase c = false) :
    LatchAndBaseKept s t := exec_outcomeKeeps c s hc t h

end Sys2Proof.Machine
end

section
/-! The clock latch (R164): the two halves of one Clock value, read at CLOCK_LO and CLOCK_HI. -/

namespace Sys2Proof.Machine

/-- CLOCK_LO: the low word is returned and the high bits are latched, of one and the same Clock. -/
theorem exec_clockLoRead (s : State) :
    exec .clockLoRead s =
      .next { s with readData := s.clock.extractLsb' 0 32, latch := s.clock.extractLsb' 32 16 } := by
  rw [← BitVec.setWidth_eq_extractLsb' (by decide)]
  rfl

/-- CLOCK_HI: the latch, under 16 zero bits. -/
theorem readRegister_clockHi (s : State) : readRegister s 0x18 = (0#16 ++ s.latch : BitVec 32) :=
  BitVec.setWidth_eq_append (by decide)

/-- A write to a register named by its offset reaches no latch. -/
@[simp] theorem writeRegister_latch (offset : BitVec 8) (v : BitVec 32) (s : State) :
    (writeRegister offset v s).latch = s.latch := by
  unfold writeRegister
  split
  case h_1 => exact writeControl_latch v s
  case h_2 => exact clearCauses_latch _ s
  case h_3 => split <;> rfl
  case h_4 => split <;> rfl
  case h_5 => rfl

theorem exec_registerWrite_latch {offset : BitVec 8} {v : BitVec 32} {s t : State}
    (h : exec (.registerWrite offset v) s = .next t) : t.latch = s.latch := by
  rw [exec_registerWrite] at h
  cases h
  split
  case isTrue => rfl
  case isFalse => exact writeRegister_latch offset v s

/-- Settles O13: the two reads by their values, the latch elsewhere command by command. -/
theorem clockReadLatchesHighBits : Obligations.ClockReadLatchesHighBits := by
  refine ⟨exec_clockLoRead, readRegister_clockHi, fun c s t h => ?kept, fun s t u h hlatch => ?value⟩
  case kept =>
    cases c with
    | clockLoRead => trivial
    | powerOnReset level => cases h; rfl
    | resetLine level => cases h; rfl
    | registerWrite offset v => exact exec_registerWrite_latch h
    | _ => exact (exec_latchAndBaseKept h rfl).1
  case value =>
    rw [exec_clockLoRead] at h
    cases h
    rw [readRegister_clockHi, BitVec.extractLsb'_append_eq_right, hlatch]
    exact BitVec.extractLsb'_append_extractLsb'

end Sys2Proof.Machine
end

section
/-! The area base (R163, R165): its two words, when a write to them is taken, and the base that a start
refuses. -/

namespace Sys2Proof.Machine

/-- The base is the pair of its words. -/
theorem areaBase_eq_iff {r q : Registers} : areaBase q = areaBase r ↔ q.areaLo = r.areaLo ∧ q.areaHi = r.areaHi := by
  constructor
  · intro h
    have hlo := congrArg (BitVec.extractLsb' 0 32) h
    have hhi := congrArg (BitVec.extractLsb' 32 32) h
    rw [areaBase, areaBase, BitVec.extractLsb'_append_eq_right, BitVec.extractLsb'_append_eq_right] at hlo
    rw [areaBase, areaBase, BitVec.extractLsb'_append_eq_left, BitVec.extractLsb'_append_eq_left] at hhi
    exact ⟨hlo, hhi⟩
  · rintro ⟨hlo, hhi⟩
    rw [areaBase, areaBase, hlo, hhi]

/-- R165 in numbers: an accepted base is a multiple of 4096 other than 0. -/
theorem baseValid_iff (r : Registers) :
    baseValid r = true ↔ areaBase r ≠ 0 ∧ (areaBase r).toNat % 4096 = 0 := by
  have haligned : (areaBase r).extractLsb' 0 12 = 0 ↔ (areaBase r).toNat % 4096 = 0 := by
    simp [← BitVec.toNat_inj, BitVec.extractLsb'_toNat]
  rw [baseValid, Bool.and_eq_true, bne_iff_ne, beq_iff_eq, haligned]

/-- A start with a refused base writes RUN 0 and AREA_INVALID 1, and does nothing else. -/
theorem tryStart_of_refused {s : State} (h : areaBase s.regs = 0 ∨ (areaBase s.regs).toNat % 4096 ≠ 0) :
    tryStart s = { s with regs := { s.regs with run := false, areaInvalid := true } } := by
  have hbase : ¬ baseValid s.regs = true := fun hvalid =>
    have ⟨hne, haligned⟩ := (baseValid_iff s.regs).1 hvalid
    h.elim hne (· haligned)
  rw [tryStart, if_neg hbase]

/-! ### Writes to the two words -/

/-- A write to AREA_LO: HALTED ignores it as a write to any register, RUNNING and DOZE as one to the base. -/
theorem exec_registerWrite_areaLo (s : State) (v : BitVec 32) :
    exec (.registerWrite 0x0C v) s =
      .next (if s.regs.state = .off then { s with regs := { s.regs with areaLo := v } } else s) := by
  rw [exec_registerWrite]
  split
  case isTrue hhalted => rw [if_neg (by simp [hhalted])]
  case isFalse => rfl

/-- A write to AREA_HI, likewise. -/
theorem exec_registerWrite_areaHi (s : State) (v : BitVec 32) :
    exec (.registerWrite 0x10 v) s =
      .next (if s.regs.state = .off then { s with regs := { s.regs with areaHi := v } } else s) := by
  rw [exec_registerWrite]
  split
  case isTrue hhalted => rw [if_neg (by simp [hhalted])]
  case isFalse => rfl

/-- A write moves a word of the base only at that word's own offset. -/
theorem writeRegister_areaWords (offset : BitVec 8) (v : BitVec 32) (s : State) :
    (offset ≠ 0x0C#8 → (writeRegister offset v s).regs.areaLo = s.regs.areaLo) ∧
    (offset ≠ 0x10#8 → (writeRegister offset v s).regs.areaHi = s.regs.areaHi) := by
  have of_base {t : State} (h : areaBase t.regs = areaBase s.regs) :
      (offset ≠ 0x0C#8 → t.regs.areaLo = s.regs.areaLo) ∧ (offset ≠ 0x10#8 → t.regs.areaHi = s.regs.areaHi) :=
    have ⟨hlo, hhi⟩ := areaBase_eq_iff.1 h
    ⟨fun _ => hlo, fun _ => hhi⟩
  unfold writeRegister
  split
  case h_1 => exact of_base (writeControl_areaBase v s)
  case h_2 => exact of_base (clearCauses_areaBase _ s)
  case h_3 hoffset => exact ⟨fun hne => absurd (BitVec.eq_of_toNat_eq hoffset) hne, fun _ => by split <;> rfl⟩
  case h_4 hoffset => exact ⟨fun _ => by split <;> rfl, fun hne => absurd (BitVec.eq_of_toNat_eq hoffset) hne⟩
  case h_5 => exact of_base rfl

theorem exec_registerWrite_areaWords {offset : BitVec 8} {v : BitVec 32} {s t : State}
    (h : exec (.registerWrite offset v) s = .next t) :
    (offset ≠ 0x0C#8 → t.regs.areaLo = s.regs.areaLo) ∧ (offset ≠ 0x10#8 → t.regs.areaHi = s.regs.areaHi) := by
  rw [exec_registerWrite] at h
  cases h
  split
  case isTrue => exact ⟨fun _ => rfl, fun _ => rfl⟩
  case isFalse => exact writeRegister_areaWords offset v s

/-- Settles O14: the writes by run state, the refusal at RUN set, and the words elsewhere command by command. -/
theorem areaBaseWrittenOnlyInOff : Obligations.AreaBaseWrittenOnlyInOff := by
  refine ⟨fun _ => rfl, fun s v hoff => ?taken, fun s v hlive => ?ignored, fun s hoff hrun hbase => ?refused,
    fun c s t h => ?kept⟩
  case taken => rw [exec_registerWrite_areaLo, exec_registerWrite_areaHi, if_pos hoff, if_pos hoff]; exact ⟨rfl, rfl⟩
  case ignored => rw [exec_registerWrite_areaLo, exec_registerWrite_areaHi, if_neg hlive, if_neg hlive]; exact ⟨rfl, rfl⟩
  case refused => rw [exec_runSet_of_off hoff hrun, tryStart_of_refused hbase]
  case kept =>
    cases c with
    | registerWrite offset v => exact exec_registerWrite_areaWords h
    | powerOnReset level => cases h; exact ⟨rfl, rfl⟩
    | resetLine level => cases h; exact ⟨rfl, rfl⟩
    | clockLoRead => cases h; exact ⟨rfl, rfl⟩
    | _ => exact areaBase_eq_iff.1 (exec_latchAndBaseKept h rfl).2

end Sys2Proof.Machine
end

section
/-! Every command answers a next state. `nextState` is `exec` without the outcome around it, one arm per
command, and the commands that HALTED ignores or that are taken in RUNNING and DOZE alone are written as a
choice between two states. What a step keeps is then shown arm by arm of `nextState`. -/

namespace Sys2Proof.Machine

/-- FRAME_START as a change of state. -/
def beginFrame (sf : Surface) (s : State) : State :=
  if isRunning s then
    match (surfaceOf s sf).processing with
    | some { frame := f, start := none } => startFrame sf f.time s
    | _ => s
  else s

/-- A frame whose processing ends: its work, the waiting frame, the drain of held events. -/
def endFrame (sf : Surface) (st : FrameStart) (f : Frame) (s : State) : State :=
  drainEvents (updateSurface (processFrame sf st f s) sf nextFrame)

/-- FRAME_PROCESSING_END as a change of state. -/
def endProcessing (sf : Surface) (s : State) : State :=
  if isRunning s then
    match (surfaceOf s sf).processing with
    | some { frame := f, start := some st } => if mayEnd (surfaceOf s sf) st then endFrame sf st f s else s
    | _ => s
  else s

/-- PEN_RECORD as a change of state. -/
def takePenRecord (r : PenRecord) (s : State) : State :=
  if isMalformed r then countMalformed s else if isRunning s && s.pen.isOpen then takeRecord r s else s

/-- An event of the Gesture Engine outside its frame work: its new state, and its events handed over. -/
def withGestures (g : GestureEngine × List Event) (s : State) : State := handEvents { s with gestures := g.1 } g.2

/-- A command that HALTED ignores. -/
def unlessHalted (f : State → State) (s : State) : State := if s.regs.state = .halted then s else f s

/-- A word on a link as a change of state. -/
def linkWord (sf : Surface) (f : State → SurfaceUnit → SurfaceUnit) (s : State) : State :=
  unlessHalted (fun s => withSurface s sf (f s (surfaceOf s sf))) s

/-- KEYACT_RISING_EDGE as a change of state. -/
def raiseKeyact (s : State) : State :=
  if s.inputs.level then s
  else { s with inputs := { level := true, typing := if isRunning s then restartTyping s else s.inputs.typing } }

/-- TYPING_GUARD_EXPIRY as a change of state. -/
def expireTyping (s : State) : State :=
  if isDue s s.inputs.typing then { s with inputs := { s.inputs with typing := none } } else s

/-- RESET_LINE as a change of state: the Clock and the area base are kept (R24). -/
def resetByLine (level : Bool) (s : State) : State :=
  { resetTo level s with
    clock := s.clock
    regs := { resetRegisters with areaLo := s.regs.areaLo, areaHi := s.regs.areaHi } }

/-- The state a command leads to. -/
def nextState (c : Instr) (s : State) : State :=
  match c with
  | .powerOnReset level => resetTo level s
  | .resetLine level => resetByLine level s
  | .startWord sf k => linkWord sf (fun s => startOn s k) s
  | .cellWord sf v => linkWord sf (fun s => cellOn s sf v) s
  | .endWord sf => linkWord sf (fun s => endOn s sf) s
  | .frameStart sf => beginFrame sf s
  | .frameProcessingEnd sf => endProcessing sf s
  | .penRecord r => takePenRecord r s
  | .penTimeoutExpiry => if isDue s s.pen.timeout then expirePenTimeout s else s
  | .lingerExpiry => { s with pen := expireLinger s.clock s.pen }
  | .keyactRisingEdge => raiseKeyact s
  | .typingGuardExpiry => expireTyping s
  | .pendingTapExpiry => withGestures (expireTap s.clock s.gestures) s
  | .dragLockExpiry => withGestures (expireLock s.clock s.gestures) s
  | .runSet => unlessHalted setRun s
  | .runClear => unlessHalted clearRun s
  | .stopEnd => if stopDone s then endStop s else s
  | .notice => takeNotice s
  | .attnMaskWrite mask => unlessHalted (writeMask mask) s
  | .statusCauseClear value => unlessHalted (clearCauses (causeField value)) s
  | .faultClear => unlessHalted (clearCauses (causeBit .fault)) s
  | .registerWrite offset value => unlessHalted (writeRegister offset value) s
  | .clockLoRead => { s with readData := s.clock.setWidth 32, latch := s.clock.extractLsb' 32 16 }
  | .commandExamination record => examine record s
  | .loadBank data => perform 1 (loadBank data) s
  | .loadZones records => perform 2 (loadZones records) s
  | .setPostureMap => perform 3 setPostureMap s
  | .setPosture => perform 4 setPosture s
  | .setSurface => perform 5 setSurface s
  | .setHand => perform 6 setHand s
  | .setPublish => perform 7 setPublish s
  | .clearTracking => perform 8 clearTracking s
  | .sleep => perform 9 sleep s
  | .wake => perform 10 wake s
  | .snapshot => perform 11 takeSnapshotRecord s
  | .commandCompletion => complete s
  | .frameSlotStateRead sf byte => readFrameSlot sf byte s
  | .frameSlotPublished sf => publishFrame sf s
  | .penSlotStateRead byte => readPenSlot byte s
  | .penSlotPublished => publishSample s
  | .eventKindRead byte => readEventKind byte s
  | .eventPublished => publishEvent s
  | .accessFailure acc offset => failAccess acc offset.toNat s
  | .readTimeout acc offset => if timedOut acc s then failAccess acc offset.toNat s else s
  | .faultRecorded => recordWritten s
  | .faultRecordWriteFailure => if s.fault.write.isSome then enterHalted s else s
  | .clockTick => { s with clock := s.clock + 1 }
  | .keyactFallingEdge => { s with inputs := { s.inputs with level := false } }

theorem execFrameStart_eq (sf : Surface) (s : State) : execFrameStart sf s = .next (beginFrame sf s) := by
  unfold execFrameStart beginFrame
  split
  · rcases (surfaceOf s sf).processing with _ | ⟨f, _ | st⟩ <;> rfl
  · rfl

theorem execFrameProcessingEnd_eq (sf : Surface) (s : State) :
    execFrameProcessingEnd sf s = .next (endProcessing sf s) := by
  unfold execFrameProcessingEnd endProcessing
  split
  · rcases (surfaceOf s sf).processing with _ | ⟨f, _ | st⟩
    · rfl
    · rfl
    · exact (apply_ite Host.Outcome.next _ _ _).symm
  · rfl

theorem execPenRecord_eq (r : PenRecord) (s : State) : execPenRecord r s = .next (takePenRecord r s) := by
  unfold execPenRecord takePenRecord
  split
  · rfl
  · split <;> rfl

/-- Every command answers the state of its arm. -/
theorem exec_eq (c : Instr) (s : State) : exec c s = .next (nextState c s) := by
  cases c with
  | frameStart sf => exact execFrameStart_eq sf s
  | frameProcessingEnd sf => exact execFrameProcessingEnd_eq sf s
  | penRecord r => exact execPenRecord_eq r s
  | startWord | cellWord | endWord | keyactRisingEdge | runSet | runClear | attnMaskWrite | statusCauseClear
  | faultClear | registerWrite => exact (apply_ite Host.Outcome.next _ _ _).symm
  | _ => rfl

theorem exec_next_iff {c : Instr} {s t : State} : exec c s = .next t ↔ nextState c s = t := by
  rw [exec_eq, Host.Outcome.next.injEq]

/-! ### Steps -/

theorem step_of_empty {s : State} (h : s.pending = []) : step s = .next s := by
  unfold step; rw [h]

/-- Settles O1: the front of the queue is what the step matches on. -/
theorem stepRunsFrontCommand : Obligations.StepRunsFrontCommand := by
  intro c rest s h
  unfold step
  rw [h]

/-- What neither a command nor the queue can break, no step breaks. -/
theorem step_keeps {P : State → Prop} (hqueue : ∀ s l, P s → P { s with pending := l })
    (hcommand : ∀ c s, P s → P (nextState c s)) {s t : State} (hs : P s) (h : step s = .next t) : P t := by
  cases hq : s.pending with
  | nil =>
    rw [step_of_empty hq] at h
    cases h
    exact hs
  | cons c rest =>
    rw [stepRunsFrontCommand c rest s hq, exec_next_iff] at h
    rw [← h]
    exact hcommand c _ (hqueue s rest hs)

/-! ### Choices -/

/-- What holds of a state, and of what a command makes of it, holds after a command that HALTED ignores. -/
theorem unlessHalted_keeps {P : State → Prop} {f : State → State} {s : State} (hs : P s) (hf : P (f s)) :
    P (unlessHalted f s) := by
  unfold unlessHalted
  split
  · exact hs
  · exact hf

theorem ite_keeps {P : State → Prop} {p : Prop} [Decidable p] {t u : State} (ht : P t) (hu : P u) :
    P (if p then t else u) := by
  split
  · exact ht
  · exact hu

/-- An event of the command in flight changes nothing or runs its body. -/
theorem perform_keeps {P : State → Prop} {kind : Nat} {body : InFlight → State → State} {s : State} (hs : P s)
    (hbody : ∀ f, s.command.inFlight = some f → P (body f s)) : P (perform kind body s) := by
  obtain ⟨f, hf, -, -, h⟩ | h := perform_cases kind body s
  · rw [h]; exact hbody f hf
  · rw [h]; exact hs

/-- FRAME_START changes nothing or starts the frame in processing. -/
theorem beginFrame_keeps {P : State → Prop} {sf : Surface} {s : State} (hs : P s)
    (hstart : isRunning s = true → ∀ t, P (startFrame sf t s)) : P (beginFrame sf s) := by
  unfold beginFrame
  split
  case isTrue hrun =>
    split
    · exact hstart hrun _
    · exact hs
  case isFalse => exact hs

/-- FRAME_PROCESSING_END changes nothing or ends the frame in processing. -/
theorem endProcessing_keeps {P : State → Prop} {sf : Surface} {s : State} (hs : P s)
    (hend : isRunning s = true → ∀ st f, P (endFrame sf st f s)) : P (endProcessing sf s) := by
  unfold endProcessing
  split
  case isTrue hrun =>
    split
    · split
      · exact hend hrun _ _
      · exact hs
    · exact hs
  case isFalse => exact hs

/-- PEN_RECORD changes nothing, counts a link error, or takes the record. -/
theorem takePenRecord_keeps {P : State → Prop} {r : PenRecord} {s : State} (hs : P s)
    (hmalformed : isRunning s = true → P { s with pen := { s.pen with linkErrors := bump16 s.pen.linkErrors } })
    (htaken : isRunning s = true → s.pen.isOpen = true → P (takeRecord r s)) : P (takePenRecord r s) := by
  unfold takePenRecord countMalformed
  split
  · split
    case isTrue h => exact hmalformed (Bool.and_eq_true_iff.1 h).1
    case isFalse => exact hs
  · split
    case isTrue h => exact htaken (Bool.and_eq_true_iff.1 h).1 (Bool.and_eq_true_iff.1 h).2
    case isFalse => exact hs

end Sys2Proof.Machine
end

section
/-! The Clock and the queue (R187; logs 27, 34): no command but a tick and power-on reset moves the one, and
no command at all touches the other. -/

namespace Sys2Proof.Machine

/-- From `s` to `t` neither the Clock nor the queue has moved. -/
def ClockAndQueueKept (s t : State) : Prop := t.clock = s.clock ∧ t.pending = s.pending

theorem ClockAndQueueKept.refl (s : State) : ClockAndQueueKept s s := ⟨rfl, rfl⟩

@[simp] theorem writeMask_clock (m : BitVec 7) (s : State) : (writeMask m s).clock = s.clock := rfl
@[simp] theorem writeMask_pending (m : BitVec 7) (s : State) : (writeMask m s).pending = s.pending := rfl
@[simp] theorem stopped_clock (s : State) : (stopped s).clock = s.clock := rfl
@[simp] theorem stopped_pending (s : State) : (stopped s).pending = s.pending := rfl

@[simp] theorem beginDoze_clock (s : State) : (beginDoze s).clock = s.clock := by simp only [beginDoze]; split <;> rfl
@[simp] theorem beginDoze_pending (s : State) : (beginDoze s).pending = s.pending := by
  simp only [beginDoze]; split <;> rfl
@[simp] theorem endDoze_clock (s : State) : (endDoze s).clock = s.clock := by simp only [endDoze]; split <;> rfl
@[simp] theorem endDoze_pending (s : State) : (endDoze s).pending = s.pending := by
  simp only [endDoze]; split <;> rfl

theorem endStop_clockAndQueueKept (s : State) : ClockAndQueueKept s (endStop s) :=
  ite_keeps (P := ClockAndQueueKept s) ⟨by simp, by simp⟩ ⟨rfl, rfl⟩

theorem writeControl_clockAndQueueKept (v : BitVec 32) (s : State) : ClockAndQueueKept s (writeControl v s) := by
  simp only [writeControl]
  (repeat' split) <;> exact ⟨by simp, by simp⟩

theorem writeRegister_clockAndQueueKept (offset : BitVec 8) (v : BitVec 32) (s : State) :
    ClockAndQueueKept s (writeRegister offset v s) := by
  unfold writeRegister
  split
  case h_1 => exact writeControl_clockAndQueueKept v s
  case h_2 => exact ⟨clearCauses_clock _ s, clearCauses_pending _ s⟩
  case h_3 => exact ite_keeps ⟨rfl, rfl⟩ (.refl s)
  case h_4 => exact ite_keeps ⟨rfl, rfl⟩ (.refl s)
  case h_5 => exact .refl s

theorem takeRecord_clockAndQueueKept (r : PenRecord) (s : State) : ClockAndQueueKept s (takeRecord r s) :=
  ite_keeps (P := ClockAndQueueKept s) ⟨by simp, by simp⟩ ⟨by simp, by simp⟩

theorem setSurface_clockAndQueueKept (f : InFlight) (s : State) : ClockAndQueueKept s (setSurface f s) := by
  simp only [setSurface]
  (repeat' split) <;> exact ⟨by simp, by simp⟩

theorem setPosture_clockAndQueueKept (f : InFlight) (s : State) : ClockAndQueueKept s (setPosture f s) := by
  simp only [setPosture]
  split <;> exact ⟨by simp, by simp⟩

theorem clearTracking_clockAndQueueKept (f : InFlight) (s : State) : ClockAndQueueKept s (clearTracking f s) :=
  ⟨by simp [clearTracking], by simp [clearTracking]⟩

theorem sleep_clockAndQueueKept (f : InFlight) (s : State) : ClockAndQueueKept s (sleep f s) := by
  unfold sleep
  split <;> exact ⟨by simp, by simp⟩

theorem wake_clockAndQueueKept (f : InFlight) (s : State) : ClockAndQueueKept s (wake f s) := by
  unfold wake
  split <;> exact ⟨by simp, by simp⟩

theorem takeSnapshotRecord_clockAndQueueKept (f : InFlight) (s : State) :
    ClockAndQueueKept s (takeSnapshotRecord f s) := by
  simp only [takeSnapshotRecord]
  split <;> exact ⟨by simp, by simp⟩

theorem readFrameSlot_clockAndQueueKept (sf : Surface) (b : Byte) (s : State) :
    ClockAndQueueKept s (readFrameSlot sf b s) := by
  simp only [readFrameSlot]
  (repeat' split) <;> exact ⟨by simp, by simp⟩

theorem publishFrame_clockAndQueueKept (sf : Surface) (s : State) : ClockAndQueueKept s (publishFrame sf s) := by
  simp only [publishFrame]
  split <;> exact ⟨by simp, by simp⟩

theorem readPenSlot_clockAndQueueKept (b : Byte) (s : State) : ClockAndQueueKept s (readPenSlot b s) := by
  unfold readPenSlot
  (repeat' split) <;> exact ⟨rfl, rfl⟩

theorem publishSample_clockAndQueueKept (s : State) : ClockAndQueueKept s (publishSample s) := by
  unfold publishSample
  split <;> exact ⟨rfl, rfl⟩

theorem readEventKind_clockAndQueueKept (k : Byte) (s : State) : ClockAndQueueKept s (readEventKind k s) := by
  simp only [readEventKind]
  (repeat' split) <;> exact ⟨rfl, rfl⟩

theorem publishEvent_clockAndQueueKept (s : State) : ClockAndQueueKept s (publishEvent s) := by
  unfold publishEvent
  split <;> exact ⟨by simp, by simp⟩

theorem failAccess_clockAndQueueKept (acc : Access) (o : Nat) (s : State) : ClockAndQueueKept s (failAccess acc o s) := by
  cases acc with
  | penSlotRead | penSlotWrite | eventKindRead | eventWrite =>
    simp only [failAccess, failPenRead, failPenWrite, failEventRead, failEventWrite]
    (repeat' split) <;> exact ⟨rfl, rfl⟩
  | frameSlotRead | frameSlotWrite | recordRead | takenWrite | finalWrite =>
    simp only [failAccess, failFrameRead, failFrameWrite, failRecordRead, failTaken, failFinalWrite]
    (repeat' split) <;> exact ⟨by simp, by simp⟩
  | dataRead | snapshotWrite =>
    simp only [failAccess, failDataRead, failSnapshotWrite]
    (repeat' split) <;> exact ⟨by simp, by simp⟩

theorem recordWritten_clockAndQueueKept (s : State) : ClockAndQueueKept s (recordWritten s) := by
  simp only [recordWritten]
  (repeat' split) <;> exact ⟨rfl, rfl⟩

/-- The commands that set the Clock. -/
def setsClock : Instr → Bool
  | .powerOnReset _ | .clockTick => true
  | _ => false

theorem nextState_clockAndQueueKept {c : Instr} (hc : setsClock c = false) (s : State) :
    ClockAndQueueKept s (nextState c s) := by
  have same : ClockAndQueueKept s s := .refl s
  cases c with
  | powerOnReset | clockTick => cases hc
  | resetLine | lingerExpiry | pendingTapExpiry | dragLockExpiry | clockLoRead | keyactFallingEdge => exact ⟨rfl, rfl⟩
  | startWord | cellWord | endWord => exact unlessHalted_keeps same ⟨by simp, by simp⟩
  | frameStart sf => exact beginFrame_keeps same fun _ t => ⟨startFrame_clock sf t s, startFrame_pending sf t s⟩
  | frameProcessingEnd sf => exact endProcessing_keeps same fun _ st f => ⟨by simp [endFrame], by simp [endFrame]⟩
  | penRecord r => exact takePenRecord_keeps same (fun _ => ⟨rfl, rfl⟩) fun _ _ => takeRecord_clockAndQueueKept r s
  | penTimeoutExpiry => exact ite_keeps ⟨handPen_clock _ _, handPen_pending _ _⟩ same
  | keyactRisingEdge => exact ite_keeps same ⟨rfl, rfl⟩
  | typingGuardExpiry => exact ite_keeps ⟨rfl, rfl⟩ same
  | runSet => exact unlessHalted_keeps same ⟨setRun_clock s, setRun_pending s⟩
  | runClear => exact unlessHalted_keeps same ⟨clearRun_clock s, clearRun_pending s⟩
  | stopEnd => exact ite_keeps (endStop_clockAndQueueKept s) same
  | notice => exact ⟨takeNotice_clock s, takeNotice_pending s⟩
  | attnMaskWrite => exact unlessHalted_keeps same ⟨rfl, rfl⟩
  | statusCauseClear | faultClear => exact unlessHalted_keeps same ⟨clearCauses_clock _ s, clearCauses_pending _ s⟩
  | registerWrite offset v => exact unlessHalted_keeps same (writeRegister_clockAndQueueKept offset v s)
  | commandExamination r => exact ⟨examine_clock r s, examine_pending r s⟩
  | loadBank d => exact perform_keeps same fun f _ => ⟨loadBank_clock d f s, loadBank_pending d f s⟩
  | loadZones d => exact perform_keeps same fun f _ => ⟨loadZones_clock d f s, loadZones_pending d f s⟩
  | setPostureMap | setHand | setPublish => exact perform_keeps same fun f _ => ⟨finishOk_clock f _, finishOk_pending f _⟩
  | setSurface => exact perform_keeps same fun f _ => setSurface_clockAndQueueKept f s
  | setPosture => exact perform_keeps same fun f _ => setPosture_clockAndQueueKept f s
  | clearTracking => exact perform_keeps same fun f _ => clearTracking_clockAndQueueKept f s
  | sleep => exact perform_keeps same fun f _ => sleep_clockAndQueueKept f s
  | wake => exact perform_keeps same fun f _ => wake_clockAndQueueKept f s
  | snapshot => exact perform_keeps same fun f _ => takeSnapshotRecord_clockAndQueueKept f s
  | commandCompletion => exact ⟨complete_clock s, complete_pending s⟩
  | frameSlotStateRead sf b => exact readFrameSlot_clockAndQueueKept sf b s
  | frameSlotPublished sf => exact publishFrame_clockAndQueueKept sf s
  | penSlotStateRead b => exact readPenSlot_clockAndQueueKept b s
  | penSlotPublished => exact publishSample_clockAndQueueKept s
  | eventKindRead k => exact readEventKind_clockAndQueueKept k s
  | eventPublished => exact publishEvent_clockAndQueueKept s
  | accessFailure acc o => exact failAccess_clockAndQueueKept acc _ s
  | readTimeout acc o => exact ite_keeps (failAccess_clockAndQueueKept acc _ s) same
  | faultRecorded => exact recordWritten_clockAndQueueKept s
  | faultRecordWriteFailure => exact ite_keeps ⟨rfl, rfl⟩ same

/-- No command touches the queue. -/
theorem nextState_pending (c : Instr) (s : State) : (nextState c s).pending = s.pending := by
  cases c with
  | powerOnReset | clockTick => rfl
  | _ => exact (nextState_clockAndQueueKept rfl s).2

/-- Settles O2: `exec` is `nextState`, which leaves the queue. -/
theorem commandsCompleteAndKeepQueue : Obligations.CommandsCompleteAndKeepQueue := fun c s =>
  ⟨nextState c s, exec_eq c s, nextState_pending c s⟩

/-- One more on the Clock, in numbers (R187). -/
theorem clock_succ (t : Time) : t + 1 = BitVec.ofNat 48 ((t.toNat + 1) % 2 ^ 48) := by
  apply BitVec.eq_of_toNat_eq
  simp [BitVec.toNat_add]

/-- Settles O12: a tick by its arm, every other command by what it keeps. -/
theorem clockMovesOnlyByTick : Obligations.ClockMovesOnlyByTick := by
  refine ⟨fun s => ?tick, fun c s t h => ?others⟩
  case tick => rw [exec_eq, ← clock_succ]; rfl
  case others =>
    rw [exec_next_iff] at h
    subst h
    cases c with
    | clockTick => trivial
    | powerOnReset level => rfl
    | _ => exact (nextState_clockAndQueueKept rfl s).1

/-! ### The invariants after power-on reset -/

theorem reset_positionsInRange : PositionsInRange State.reset := by
  have hsurface : SurfaceInRange resetSurface := by unfold SurfaceInRange; decide
  exact ⟨hsurface, hsurface, by decide, by decide, by decide, by decide, by decide⟩

theorem resetSurface_slotsSound (sf : Surface) : SlotsSound sf resetSurface :=
  ⟨List.nodup_nil, fun _ hk => absurd hk List.not_mem_nil⟩

theorem reset_contactsConfirmedFirst : ContactsConfirmedFirst State.reset := by
  intro sf
  cases sf <;> exact ⟨fun _ hk => absurd hk List.not_mem_nil, fun _ hk => absurd hk List.not_mem_nil⟩

theorem resetSurface_atRest : SurfaceAtRest resetSurface := ⟨rfl, rfl, rfl, rfl, rfl, rfl, rfl, rfl, rfl, rfl, rfl⟩

theorem resetPen_atRest : PenAtRest resetPen := ⟨rfl, rfl, rfl, rfl, rfl, rfl, rfl⟩

theorem reset_atRest : AtRest State.reset := fun _ =>
  ⟨rfl, resetSurface_atRest, resetSurface_atRest, resetPen_atRest, rfl, rfl, rfl, rfl, rfl, rfl, rfl, rfl, rfl, rfl, rfl,
    rfl, rfl, fun _ => rfl, rfl, fun _ => rfl⟩

theorem reset_penConsistent : PenConsistent State.reset := by unfold PenConsistent; decide

/-- Settles O3: the reset state holds nothing. -/
theorem resetMeetsInvariants : Obligations.ResetMeetsInvariants :=
  ⟨reset_area_wf, Nat.zero_le _, reset_positionsInRange, ⟨resetSurface_slotsSound .pad, resetSurface_slotsSound .screen⟩,
    reset_contactsConfirmedFirst, reset_atRest, reset_penConsistent⟩

end Sys2Proof.Machine
end

section
/-! The image of host memory (log 2): every command leaves it as it is or writes bytes into it, and a write
keeps the canonical form. -/

namespace Sys2Proof.Machine

/-- From `s` to `t` bytes, perhaps none, have been written into the image. -/
def AreaWritten (s t : State) : Prop := ∃ cells, t.area = writeBytes s.area cells

theorem AreaWritten.of_area {s t : State} (h : t.area = s.area) : AreaWritten s t := ⟨[], h⟩
theorem AreaWritten.refl (s : State) : AreaWritten s s := .of_area rfl

/-- The state after counts only by its image. -/
theorem AreaWritten.congr {s t u : State} (h : AreaWritten s t) (hu : u.area = t.area) : AreaWritten s u := by
  obtain ⟨cells, ht⟩ := h
  exact ⟨cells, hu.trans ht⟩

theorem AreaWritten.putCells {s t : State} (h : AreaWritten s t) (cells : List Host.Cell) :
    AreaWritten s (putCells t cells) := by
  obtain ⟨before, ht⟩ := h
  exact ⟨before ++ cells, by rw [putCells_area, ht]; exact (List.foldl_append ..).symm⟩

theorem AreaWritten.ackTaken {s t : State} (h : AreaWritten s t) (f : InFlight) : AreaWritten s (ackTaken f t) :=
  ite_keeps h (h.putCells _)

/-- A command's result is known: its TAKEN write shows (log 20). -/
theorem AreaWritten.finish {s t : State} (h : t.area = s.area) (r d : Nat) (l : List Byte) (f : InFlight) :
    AreaWritten s (finish r d l f t) := ((AreaWritten.of_area h).ackTaken f).congr rfl

theorem AreaWritten.readOn {s t : State} (h : t.area = s.area) (f : InFlight) : AreaWritten s (readOn f t) :=
  ((AreaWritten.of_area h).ackTaken f).congr rfl

/-! ### Run control and registers -/

@[simp] theorem stopped_area (s : State) : (stopped s).area = s.area := rfl
@[simp] theorem beginDoze_area (s : State) : (beginDoze s).area = s.area := by simp only [beginDoze]; split <;> rfl
@[simp] theorem endDoze_area (s : State) : (endDoze s).area = s.area := by simp only [endDoze]; split <;> rfl

@[simp] theorem endStop_area (s : State) : (endStop s).area = s.area := by
  simp only [endStop]
  split <;> simp

@[simp] theorem writeMask_area (m : BitVec 7) (s : State) : (writeMask m s).area = s.area := rfl

@[simp] theorem writeControl_area (v : BitVec 32) (s : State) : (writeControl v s).area = s.area := by
  simp only [writeControl]
  (repeat' split) <;> simp

@[simp] theorem writeRegister_area (offset : BitVec 8) (v : BitVec 32) (s : State) :
    (writeRegister offset v s).area = s.area := by
  unfold writeRegister
  split
  case h_1 => exact writeControl_area v s
  case h_2 => exact clearCauses_area _ s
  case h_3 => split <;> rfl
  case h_4 => split <;> rfl
  case h_5 => rfl

@[simp] theorem takeRecord_area (r : PenRecord) (s : State) : (takeRecord r s).area = s.area := by
  simp only [takeRecord]
  split <;> simp

theorem showTaken_areaWritten (s : State) : AreaWritten s (showTaken s) := by
  unfold showTaken
  split
  · exact (AreaWritten.refl s).ackTaken _
  · exact .refl s

theorem enterHalted_areaWritten (s : State) : AreaWritten s (enterHalted s) := (showTaken_areaWritten s).congr rfl

/-! ### The command list -/

theorem loadBank_areaWritten (d : List (BitVec 64)) (f : InFlight) (s : State) : AreaWritten s (loadBank d f s) := by
  have conclude (i : BankId) (g : Staging) (t : State) (ht : t.area = s.area) : AreaWritten s (concludeBank i g f t) := by
    simp only [concludeBank]
    split <;> exact .finish (by simpa using ht) _ _ _ _
  have entries (i : BankId) (g : Staging) (l : List (BitVec 64)) : AreaWritten s (applyEntries i g l f s) := by
    simp only [applyEntries]
    split
    · exact conclude i _ s rfl
    · exact .readOn (by simp) f
  simp only [loadBank]
  split
  · exact entries _ _ _
  · split
    · exact .finish rfl _ _ _ _
    · split
      · exact .refl s
      · simp only [readHead]
        split
        · exact .finish rfl _ _ _ _
        · split
          · exact .finish rfl _ _ _ _
          · exact entries _ _ _

theorem loadZones_areaWritten (d : List (BitVec 128)) (f : InFlight) (s : State) : AreaWritten s (loadZones d f s) := by
  simp only [loadZones, applyZones, concludeZones]
  split
  · exact .finish rfl _ _ _ _
  · split
    · exact .finish (by simp [putZones]) _ _ _ _
    · exact .readOn (by simp) f

theorem setPosture_areaWritten (f : InFlight) (s : State) : AreaWritten s (setPosture f s) := by
  simp only [setPosture]
  split <;> exact .finish rfl _ _ _ _

theorem setSurface_areaWritten (f : InFlight) (s : State) : AreaWritten s (setSurface f s) := by
  simp only [setSurface]
  (repeat' split) <;> exact .finish rfl _ _ _ _

theorem clearTracking_areaWritten (f : InFlight) (s : State) : AreaWritten s (clearTracking f s) :=
  .finish (by simp) _ _ _ _

theorem sleep_areaWritten (f : InFlight) (s : State) : AreaWritten s (sleep f s) :=
  .finish (by split <;> simp) _ _ _ _

theorem wake_areaWritten (f : InFlight) (s : State) : AreaWritten s (wake f s) :=
  .finish (by split <;> simp) _ _ _ _

theorem takeSnapshotRecord_areaWritten (f : InFlight) (s : State) : AreaWritten s (takeSnapshotRecord f s) :=
  ite_keeps (.finish rfl _ _ _ _) (.finish rfl _ _ _ _)

theorem complete_areaWritten (s : State) : AreaWritten s (complete s) := by
  unfold complete
  split
  case h_1 f _ =>
    split
    case h_1 r d l _ =>
      exact (((AreaWritten.refl s).ackTaken f).putCells (f.snapshot ++ finalCells s.regs f.index r d l)).congr (by simp)
    case h_2 => exact .refl s
  case h_2 => exact .refl s

/-! ### The Publisher's accesses -/

theorem readFrameSlot_area (sf : Surface) (b : Byte) (s : State) : (readFrameSlot sf b s).area = s.area := by
  simp only [readFrameSlot]
  (repeat' split) <;> simp

theorem publishFrame_areaWritten (sf : Surface) (s : State) : AreaWritten s (publishFrame sf s) := by
  simp only [publishFrame]
  split
  case h_1 cells _ => exact ((AreaWritten.refl s).putCells cells).congr (by simp)
  case h_2 => exact .refl s

theorem readPenSlot_area (b : Byte) (s : State) : (readPenSlot b s).area = s.area := by
  unfold readPenSlot
  (repeat' split) <;> rfl

theorem publishSample_areaWritten (s : State) : AreaWritten s (publishSample s) := by
  unfold publishSample
  split
  · exact ((AreaWritten.refl s).putCells _).congr rfl
  · exact .refl s

theorem readEventKind_area (k : Byte) (s : State) : (readEventKind k s).area = s.area := by
  simp only [readEventKind]
  (repeat' split) <;> rfl

theorem publishEvent_areaWritten (s : State) : AreaWritten s (publishEvent s) := by
  unfold publishEvent
  split
  case h_1 fresh loss cells _ => exact ((AreaWritten.refl s).putCells cells).congr (by simp)
  case h_2 => exact .refl s

/-! ### Failures and the fault record -/

theorem failAccess_areaWritten (acc : Access) (o : Nat) (s : State) : AreaWritten s (failAccess acc o s) := by
  have same : AreaWritten s s := .refl s
  have landed (cells : List Host.Cell) : AreaWritten s (putCells s (landedBefore (hostAddress s.regs o) cells)) :=
    same.putCells _
  cases acc with
  | frameSlotRead | penSlotRead | eventKindRead | recordRead | takenWrite =>
    simp only [failAccess, failFrameRead, failPenRead, failEventRead, failRecordRead, failTaken]
    (repeat' split) <;> exact .of_area (by simp)
  | frameSlotWrite =>
    simp only [failAccess, failFrameWrite]
    split
    case h_1 cells _ => exact ite_keeps ((landed cells).congr (by simp)) same
    case h_2 => exact same
  | penSlotWrite =>
    simp only [failAccess, failPenWrite]
    split
    case h_1 cells _ => exact ite_keeps ((landed cells).congr (by simp)) same
    case h_2 => exact same
  | eventWrite =>
    simp only [failAccess, failEventWrite]
    split
    case h_1 fresh loss cells _ => exact ite_keeps ((landed cells).congr (by simp)) same
    case h_2 => exact same
  | dataRead =>
    simp only [failAccess, failDataRead]
    split
    · exact ite_keeps (.finish (by simp) _ _ _ _) same
    · exact same
  | snapshotWrite =>
    simp only [failAccess, failSnapshotWrite]
    split
    · exact ite_keeps ((((AreaWritten.of_area (report_area s _ _ _)).putCells _).ackTaken _).congr rfl) same
    · exact same
  | finalWrite =>
    simp only [failAccess, failFinalWrite]
    split
    case h_1 f _ =>
      split
      case h_1 r d l _ =>
        exact ite_keeps (((same.ackTaken f).putCells (f.snapshot ++
          landedBefore (hostAddress s.regs o) (finalCells s.regs f.index r d l))).congr (by simp)) same
      case h_2 => exact same
    case h_2 => exact same

theorem recordWritten_areaWritten (s : State) : AreaWritten s (recordWritten s) := by
  simp only [recordWritten]
  split
  · exact ite_keeps (((AreaWritten.refl s).putCells _).congr rfl) (((AreaWritten.refl s).putCells _).congr rfl)
  · exact .refl s

/-! ### Every command -/

theorem nextState_areaWritten (c : Instr) (s : State) : AreaWritten s (nextState c s) := by
  have same : AreaWritten s s := .refl s
  cases c with
  | powerOnReset | resetLine | lingerExpiry | pendingTapExpiry | dragLockExpiry | clockLoRead | clockTick
  | keyactFallingEdge => exact .of_area rfl
  | startWord | cellWord | endWord => exact unlessHalted_keeps same (.of_area (by simp))
  | frameStart sf => exact beginFrame_keeps same fun _ t => .of_area (startFrame_area sf t s)
  | frameProcessingEnd sf => exact endProcessing_keeps same fun _ st f => .of_area (by simp [endFrame])
  | penRecord r => exact takePenRecord_keeps same (fun _ => .of_area rfl) fun _ _ => .of_area (takeRecord_area r s)
  | penTimeoutExpiry => exact ite_keeps (.of_area (handPen_area _ _)) same
  | keyactRisingEdge => exact ite_keeps same (.of_area rfl)
  | typingGuardExpiry => exact ite_keeps (.of_area rfl) same
  | runSet => exact unlessHalted_keeps same (.of_area (setRun_area s))
  | runClear => exact unlessHalted_keeps same (.of_area (clearRun_area s))
  | stopEnd => exact ite_keeps (.of_area (endStop_area s)) same
  | notice => exact .of_area (takeNotice_area s)
  | attnMaskWrite => exact unlessHalted_keeps same (.of_area rfl)
  | statusCauseClear | faultClear => exact unlessHalted_keeps same (.of_area (clearCauses_area _ s))
  | registerWrite offset v => exact unlessHalted_keeps same (.of_area (writeRegister_area offset v s))
  | commandExamination r => exact .of_area (examine_area r s)
  | loadBank d => exact perform_keeps same fun f _ => loadBank_areaWritten d f s
  | loadZones d => exact perform_keeps same fun f _ => loadZones_areaWritten d f s
  | setPostureMap | setHand | setPublish => exact perform_keeps same fun f _ => .finish rfl _ _ _ _
  | setPosture => exact perform_keeps same fun f _ => setPosture_areaWritten f s
  | setSurface => exact perform_keeps same fun f _ => setSurface_areaWritten f s
  | clearTracking => exact perform_keeps same fun f _ => clearTracking_areaWritten f s
  | sleep => exact perform_keeps same fun f _ => sleep_areaWritten f s
  | wake => exact perform_keeps same fun f _ => wake_areaWritten f s
  | snapshot => exact perform_keeps same fun f _ => takeSnapshotRecord_areaWritten f s
  | commandCompletion => exact complete_areaWritten s
  | frameSlotStateRead sf b => exact .of_area (readFrameSlot_area sf b s)
  | frameSlotPublished sf => exact publishFrame_areaWritten sf s
  | penSlotStateRead b => exact .of_area (readPenSlot_area b s)
  | penSlotPublished => exact publishSample_areaWritten s
  | eventKindRead k => exact .of_area (readEventKind_area k s)
  | eventPublished => exact publishEvent_areaWritten s
  | accessFailure acc o => exact failAccess_areaWritten acc _ s
  | readTimeout acc o => exact ite_keeps (failAccess_areaWritten acc _ s) same
  | faultRecorded => exact recordWritten_areaWritten s
  | faultRecordWriteFailure => exact ite_keeps (enterHalted_areaWritten s) same

theorem nextState_area_wf (c : Instr) (s : State) (h : Memory.wf s.area = true) :
    Memory.wf (nextState c s).area = true := by
  obtain ⟨cells, ht⟩ := nextState_areaWritten c s
  rw [ht]
  exact writeBytes_wf cells h

/-- Settles O4: a command at most writes bytes, and a write keeps the form. -/
theorem stepKeepsMemoryCanonical : Obligations.StepKeepsMemoryCanonical := fun _ _ =>
  step_keeps (P := fun s => Memory.wf s.area = true) (fun _ _ h => h) nextState_area_wf

end Sys2Proof.Machine
end

section
/-! What a command can do to a surface's unit. `UnitStep` lists the changes that reach what the invariants of a
surface speak of: the contact table, the closing list, the id pointer, the wake run count, the publish index
and frame count, the zone table. Everything a command does to a surface, but for the resets and LOAD_ZONES, is
a sequence of such changes. -/

namespace Sys2Proof.Machine

/-! ### A tracked frame -/

/-- The contacts of a tracked frame after matching and creation. -/
def trackedCreation (sf : Surface) (st : FrameStart) (f : Frame) (u : SurfaceUnit) : Creation :=
  let p := sectionOf sf st.snap.values
  trackTable sf p u.zones f (extractOn sf p f.cells).1 (u.closing.map (·.id) ++ pendingIds u.publisher) u

/-- Their classification. -/
def trackedClasses (sf : Surface) (st : FrameStart) (f : Frame) (u : SurfaceUnit) : Classification :=
  let made := trackedCreation sf st f u
  classifyTable sf st.snap.values st.view (byCreation made.created made.table)

/-- The table a tracked frame hands over. -/
def trackedTable (sf : Surface) (st : FrameStart) (f : Frame) (u : SurfaceUnit) : List Contact :=
  (trackedClasses sf st f u).table.map updateDisplacement

/-- A surface's unit before the handover of a tracked frame. -/
def trackedUnit (sf : Surface) (st : FrameStart) (f : Frame) (u : SurfaceUnit) : SurfaceUnit :=
  let made := trackedCreation sf st f u
  { u with
    table := trackedTable sf st f u
    idPointer := made.pointer
    created := made.created
    counters := countTracked (extractOn sf (sectionOf sf st.snap.values) f.cells).2 made.refused
      (trackedClasses sf st f u) u.counters }

/-- The handover of a tracked frame. -/
def trackedHandover (sf : Surface) (st : FrameStart) (f : Frame) (u : SurfaceUnit) : Handover :=
  let p := sectionOf sf st.snap.values
  let made := trackedCreation sf st f u
  handoverOf sf st.snap f.time
    (handoverFlags sf st.view (decide (0 < (extractOn sf p f.cells).2)) (decide (0 < made.refused))) made.created
    (u.closing.map (limitClosing p.mapping) ++ trackedTable sf st f u)

/-- A tracked frame in its parts: the new unit, the gesture work, the handover, the release. -/
theorem trackFrame_eq (sf : Surface) (st : FrameStart) (f : Frame) (s : State) :
    trackFrame sf st f s =
      updateSurface
        (handFrame
          (padGestures sf st f (trackedClasses sf st f (surfaceOf s sf)) (trackedTable sf st f (surfaceOf s sf))
            (withSurface s sf (trackedUnit sf st f (surfaceOf s sf))))
          sf (trackedHandover sf st f (surfaceOf s sf)))
        sf releaseEnded := rfl

/-! ### Changes of a unit -/

/-- From `u` to `v` nothing has moved that the invariants of a surface speak of. -/
structure Beside (u v : SurfaceUnit) : Prop where
  table : v.table = u.table
  closing : v.closing = u.closing
  pointer : v.idPointer = u.idPointer
  wakeRun : v.wakeRun = u.wakeRun
  index : v.publisher.index = u.publisher.index
  count : v.publisher.count = u.publisher.count
  zones : v.zones = u.zones

/-- The changes of a surface's unit. -/
inductive UnitStep (sf : Surface) : SurfaceUnit → SurfaceUnit → Prop where
  | beside {u v : SurfaceUnit} (h : Beside u v) : UnitStep sf u v
  | wakeRun (u : SurfaceUnit) (n : Nat) (h : n ≤ 8) : UnitStep sf u { u with wakeRun := n }
  | endTable (u : SurfaceUnit) : UnitStep sf u (endTable u)
  | emptyClosing (u : SurfaceUnit) : UnitStep sf u { u with closing := [] }
  | emptyTable (u : SurfaceUnit) : UnitStep sf u { u with table := [] }
  | track (st : FrameStart) (f : Frame) (u : SurfaceUnit) : UnitStep sf u (trackedUnit sf st f u)
  | release (u : SurfaceUnit) : UnitStep sf u (releaseEnded u)
  | restart (u : SurfaceUnit) : UnitStep sf u { u with publisher := { u.publisher with index := 0 } }
  | publish (u : SurfaceUnit) : UnitStep sf u { u with publisher := { u.publisher with
      pending := none, count := (u.publisher.count + 1) % 128, index := (u.publisher.index + 1) % 4 } }

/-- A sequence of changes of a surface's unit. -/
abbrev UnitSteps (sf : Surface) : SurfaceUnit → SurfaceUnit → Prop := Relation.ReflTransGen (UnitStep sf)

theorem UnitSteps.beside {sf : Surface} {u v w : SurfaceUnit} (h : UnitSteps sf u v) (hw : Beside v w) :
    UnitSteps sf u w := h.tail (.beside hw)

theorem UnitSteps.of_beside {sf : Surface} {u v : SurfaceUnit} (h : Beside u v) : UnitSteps sf u v :=
  .single (.beside h)

/-- Both surfaces go from `s` to `t` by such changes. -/
def UnitsMoved (s t : State) : Prop := ∀ sf, UnitSteps sf (surfaceOf s sf) (surfaceOf t sf)

theorem UnitsMoved.refl (s : State) : UnitsMoved s s := fun _ => .refl

theorem UnitsMoved.trans {s t u : State} (h : UnitsMoved s t) (h' : UnitsMoved t u) : UnitsMoved s u :=
  fun sf => (h sf).trans (h' sf)

/-- The state after counts only by its two units. -/
theorem UnitsMoved.congr {s t u : State} (h : UnitsMoved s t) (hpad : u.pad = t.pad) (hscreen : u.screen = t.screen) :
    UnitsMoved s u := fun sf => by
  cases sf with
  | pad => rw [surfaceOf_pad u, hpad]; exact h .pad
  | screen => rw [surfaceOf_screen u, hscreen]; exact h .screen

theorem UnitsMoved.of_same {s t : State} (hpad : t.pad = s.pad) (hscreen : t.screen = s.screen) : UnitsMoved s t :=
  (UnitsMoved.refl s).congr hpad hscreen

theorem UnitsMoved.of_units {s t : State} (hpad : UnitSteps .pad s.pad t.pad)
    (hscreen : UnitSteps .screen s.screen t.screen) : UnitsMoved s t := fun sf => by
  cases sf with
  | pad => exact hpad
  | screen => exact hscreen

theorem surfaceOf_withSurface_ne {sf sf' : Surface} (h : sf' ≠ sf) (s : State) (u : SurfaceUnit) :
    surfaceOf (withSurface s sf u) sf' = surfaceOf s sf' := by
  cases sf <;> cases sf' <;> first | rfl | exact absurd rfl h

theorem UnitsMoved.withSurface {s t : State} (h : UnitsMoved s t) {sf : Surface} {u : SurfaceUnit}
    (hu : UnitSteps sf (surfaceOf t sf) u) : UnitsMoved s (withSurface t sf u) := fun sf' => by
  by_cases hsf : sf' = sf
  · subst hsf
    rw [surfaceOf_withSurface_same]
    exact (h sf').trans hu
  · rw [surfaceOf_withSurface_ne hsf]
    exact h sf'

theorem UnitsMoved.updateSurface {s t : State} (h : UnitsMoved s t) {sf : Surface} {g : SurfaceUnit → SurfaceUnit}
    (hg : ∀ u, UnitSteps sf u (g u)) : UnitsMoved s (updateSurface t sf g) := h.withSurface (hg _)

theorem runFrames_beside (sf : Surface) (fenced : Bool) (now : Time) (c : BitVec 32) (l : List Handover)
    (u : SurfaceUnit) (p : FramePublisher) (hindex : p.index = u.publisher.index) (hcount : p.count = u.publisher.count) :
    Beside u { u with publisher := runFrames sf fenced now c l p } := by
  obtain ⟨hc, hi⟩ := runFrames_spec sf fenced now c l p
  exact ⟨rfl, rfl, rfl, rfl, hi.trans hindex, hc.trans hcount, rfl⟩

theorem UnitsMoved.handFrame {s t : State} (h : UnitsMoved s t) (sf : Surface) (x : Handover) :
    UnitsMoved s (handFrame t sf x) := h.withSurface (.of_beside (runFrames_beside _ _ _ _ _ _ _ rfl rfl))

theorem UnitsMoved.resumeFrames {s t : State} (h : UnitsMoved s t) (sf : Surface) : UnitsMoved s (resumeFrames t sf) :=
  h.withSurface (.of_beside (runFrames_beside _ _ _ _ _ _ _ rfl rfl))

/-! ### Links and run control -/

theorem offerFrame_beside (f : Frame) (u : SurfaceUnit) : Beside u (offerFrame f u) := by
  simp only [offerFrame]
  (repeat' split) <;> exact ⟨rfl, rfl, rfl, rfl, rfl, rfl, rfl⟩

theorem acceptFrame_beside (s : State) (k : BitVec 8) (cells : List Int) (u : SurfaceUnit) :
    Beside u (acceptFrame s k cells u) := by
  unfold acceptFrame
  split
  · exact ⟨rfl, rfl, rfl, rfl, rfl, rfl, rfl⟩
  · split
    · exact ⟨rfl, rfl, rfl, rfl, rfl, rfl, rfl⟩
    · exact offerFrame_beside _ u

theorem startOn_beside (s : State) (k : BitVec 8) (u : SurfaceUnit) : Beside u (startOn s k u) := by
  rw [startOn_eq]
  exact ⟨rfl, rfl, rfl, rfl, rfl, rfl, rfl⟩

theorem cellOn_beside (s : State) (sf : Surface) (v : BitVec 13) (u : SurfaceUnit) : Beside u (cellOn s sf v u) := by
  rw [cellOn_eq]
  (repeat' split) <;> exact ⟨rfl, rfl, rfl, rfl, rfl, rfl, rfl⟩

theorem endOn_beside (s : State) (sf : Surface) (u : SurfaceUnit) : Beside u (endOn s sf u) := by
  simp only [endOn, raiseOrphan_eq, raiseShort_eq]
  split
  · exact ⟨rfl, rfl, rfl, rfl, rfl, rfl, rfl⟩
  · split
    · obtain ⟨h1, h2, h3, h4, h5, h6, h7⟩ := acceptFrame_beside s _ _ { u with decoder := .idle }
      exact ⟨h1, h2, h3, h4, h5, h6, h7⟩
    · exact ⟨rfl, rfl, rfl, rfl, rfl, rfl, rfl⟩
  · exact ⟨rfl, rfl, rfl, rfl, rfl, rfl, rfl⟩

theorem startSurface_unitSteps (e : MapEntry) (sf : Surface) (u : SurfaceUnit) : UnitSteps sf u (startSurface e sf u) :=
  .beside (.tail (.single (.wakeRun u 0 (Nat.zero_le _))) (.restart _)) ⟨rfl, rfl, rfl, rfl, rfl, rfl, rfl⟩

theorem emptySurface_unitSteps (sf : Surface) (u : SurfaceUnit) : UnitSteps sf u (emptySurface u) :=
  .beside (.tail (.tail (.single (.emptyTable u)) (.emptyClosing _)) (.wakeRun _ 0 (Nat.zero_le _)))
    ⟨rfl, rfl, rfl, rfl, rfl, rfl, rfl⟩

theorem stopSurface_unitSteps (sf : Surface) (u : SurfaceUnit) : UnitSteps sf u (stopSurface u) :=
  (emptySurface_unitSteps sf u).beside ⟨rfl, rfl, rfl, rfl, rfl, rfl, rfl⟩

theorem haltSurface_unitSteps (sf : Surface) (u : SurfaceUnit) : UnitSteps sf u (haltSurface u) :=
  (emptySurface_unitSteps sf u).beside ⟨rfl, rfl, rfl, rfl, rfl, rfl, rfl⟩

theorem tryStart_unitsMoved (s : State) : UnitsMoved s (tryStart s) := by
  unfold tryStart
  split
  · exact .of_units (startSurface_unitSteps _ _ _) (startSurface_unitSteps _ _ _)
  · exact .of_same rfl rfl

theorem setRun_unitsMoved (s : State) : UnitsMoved s (setRun s) := by
  unfold setRun
  split
  · exact .refl s
  · split
    · exact tryStart_unitsMoved s
    · exact .of_same rfl rfl

theorem beginStop_unitsMoved (s : State) : UnitsMoved s (beginStop s) :=
  .of_units (.of_beside ⟨rfl, rfl, rfl, rfl, rfl, rfl, rfl⟩) (.of_beside ⟨rfl, rfl, rfl, rfl, rfl, rfl, rfl⟩)

theorem clearRun_unitsMoved (s : State) : UnitsMoved s (clearRun s) := by
  unfold clearRun
  split
  · exact ite_keeps (beginStop_unitsMoved _) (.of_same rfl rfl)
  · exact .refl s

theorem stopped_unitsMoved (s : State) : UnitsMoved s (stopped s) :=
  .of_units (stopSurface_unitSteps _ _)
    ((stopSurface_unitSteps .screen s.screen).beside ⟨rfl, rfl, rfl, rfl, rfl, rfl, rfl⟩)

theorem endStop_unitsMoved (s : State) : UnitsMoved s (endStop s) :=
  ite_keeps ((stopped_unitsMoved s).trans (tryStart_unitsMoved _)) (stopped_unitsMoved s)

theorem enterHalted_unitsMoved (s : State) : UnitsMoved s (enterHalted s) :=
  .of_units (haltSurface_unitSteps _ _) (haltSurface_unitSteps _ _)

theorem writeControl_unitsMoved (v : BitVec 32) (s : State) : UnitsMoved s (writeControl v s) := by
  have run : UnitsMoved s (if v.getLsbD 0 then setRun s else clearRun s) :=
    ite_keeps (setRun_unitsMoved s) (clearRun_unitsMoved s)
  have masked := run.congr (u := writeMask (v.extractLsb' 8 7) _) rfl rfl
  exact ite_keeps (masked.congr (takeNotice_pad _) (takeNotice_screen _)) masked

theorem writeRegister_unitsMoved (offset : BitVec 8) (v : BitVec 32) (s : State) :
    UnitsMoved s (writeRegister offset v s) := by
  unfold writeRegister
  split
  case h_1 => exact writeControl_unitsMoved v s
  case h_2 => exact .of_same (clearCauses_pad _ s) (clearCauses_screen _ s)
  case h_3 => exact ite_keeps (.of_same rfl rfl) (.refl s)
  case h_4 => exact ite_keeps (.of_same rfl rfl) (.refl s)
  case h_5 => exact .refl s

/-! ### A frame's start -/

theorem UnitsMoved.endPadGestures {s t : State} (h : UnitsMoved s t) (sf : Surface) (o : EndOutcome) (x : Time) :
    UnitsMoved s (endPadGestures t sf o x) := h.congr (endPadGestures_pad ..) (endPadGestures_screen ..)

theorem consumeClear_unitsMoved (x : Time) (sf : Surface) (s : State) : UnitsMoved s (consumeClear x sf s) := by
  unfold consumeClear
  refine ite_keeps ?_ (.refl s)
  exact .endPadGestures ((UnitsMoved.refl s).updateSurface fun u =>
    .tail (UnitSteps.of_beside (v := { u with clearReq := false }) ⟨rfl, rfl, rfl, rfl, rfl, rfl, rfl⟩)
      (.endTable _)) _ _ _

theorem closeAfterSleep_unitsMoved (x : Time) (sf : Surface) (s : State) : UnitsMoved s (closeAfterSleep x sf s) := by
  unfold closeAfterSleep
  refine ite_keeps ?_ (.refl s)
  exact .endPadGestures ((UnitsMoved.refl s).updateSurface fun u =>
    .tail (UnitSteps.of_beside (v := { u with sleepClose := false }) ⟨rfl, rfl, rfl, rfl, rfl, rfl, rfl⟩)
      (.endTable _)) _ _ _

theorem suspensionStep_unitsMoved (snap : Snapshot) (s : State) : UnitsMoved s (suspensionStep snap s) := by
  simp only [suspensionStep]
  (repeat' split) <;> exact .of_units .refl (.of_beside ⟨rfl, rfl, rfl, rfl, rfl, rfl, rfl⟩)

theorem takeView_unitsMoved (sf : Surface) (snap : Snapshot) (s : State) : UnitsMoved s (takeView sf snap s).2 := by
  cases sf with
  | pad => exact .refl s
  | screen => exact (suspensionStep_unitsMoved snap s).congr rfl rfl

theorem UnitsMoved.handClosing {s t : State} (h : UnitsMoved s t) (sf : Surface) (snap : Snapshot) (v : FrameView)
    (x : Time) : UnitsMoved s (handClosing sf snap v x t) :=
  .handFrame (h.withSurface (.single (.emptyClosing _))) sf _

theorem UnitsMoved.handClosingIfAny {s t : State} (h : UnitsMoved s t) (sf : Surface) (snap : Snapshot) (v : FrameView)
    (x : Time) : UnitsMoved s (handClosingIfAny sf snap v x t) := ite_keeps h (h.handClosing sf snap v x)

theorem UnitsMoved.setWork {s t : State} (h : UnitsMoved s t) (sf : Surface) (snap : Snapshot) (v : FrameView)
    (w : FrameWork) : UnitsMoved s (setWork sf snap v w t) :=
  h.updateSurface fun u => by
    cases u.processing with
    | none => exact .refl
    | some p => exact .of_beside ⟨rfl, rfl, rfl, rfl, rfl, rfl, rfl⟩

theorem UnitsMoved.startDiscard {s t : State} (h : UnitsMoved s t) (sf : Surface) (snap : Snapshot) (v : FrameView)
    (x : Time) : UnitsMoved s (startDiscard sf snap v x t) := .setWork (h.handClosingIfAny sf snap v x) sf snap v _

theorem UnitsMoved.startTrack {s t : State} (h : UnitsMoved s t) (sf : Surface) (snap : Snapshot) (v : FrameView)
    (x : Time) : UnitsMoved s (startTrack sf snap v x t) :=
  .setWork (h.congr (padFloor_pad ..) (padFloor_screen ..)) sf snap v _

/-- A unit changed beside what the invariants speak of. -/
theorem UnitsMoved.updateBeside {s t : State} (h : UnitsMoved s t) (sf : Surface) {g : SurfaceUnit → SurfaceUnit}
    (hg : ∀ u, Beside u (g u)) : UnitsMoved s (Machine.updateSurface t sf g) :=
  h.updateSurface fun u => .of_beside (hg u)

theorem UnitsMoved.startSettling {s t : State} (h : UnitsMoved s t) (sf : Surface) (snap : Snapshot) (v : FrameView)
    (x : Time) : UnitsMoved s (startSettling sf snap v x t) := by
  simp only [Machine.startSettling]
  have inForce := h.updateBeside sf (g := fun u => { u with bankInForce := snap.bank })
    fun _ => ⟨rfl, rfl, rfl, rfl, rfl, rfl, rfl⟩
  split
  · refine .startDiscard (inForce.updateBeside sf ?_) sf snap v x
    exact fun _ => ⟨rfl, rfl, rfl, rfl, rfl, rfl, rfl⟩
  · refine .startTrack ((inForce.updateBeside sf ?_).congr (openPen_pad ..) (openPen_screen ..)) sf snap v x
    exact fun _ => ⟨rfl, rfl, rfl, rfl, rfl, rfl, rfl⟩

theorem UnitsMoved.startDeactivation {s t : State} (h : UnitsMoved s t) (sf : Surface) (snap : Snapshot) (v : FrameView)
    (x : Time) : UnitsMoved s (startDeactivation sf snap v x t) := by
  have ended := (h.updateSurface (sf := sf) fun u => .single (.endTable u)).endPadGestures sf .postureCancelled x
  refine .setWork (((ended.handClosing sf snap v x).updateBeside sf ?_).congr
    (closePen_pad ..) (closePen_screen ..)) sf snap v _
  exact fun _ => ⟨rfl, rfl, rfl, rfl, rfl, rfl, rfl⟩

theorem UnitsMoved.startBankChange {s t : State} (h : UnitsMoved s t) (sf : Surface) (snap : Snapshot) (v : FrameView)
    (x : Time) : UnitsMoved s (startBankChange sf snap v x t) := by
  have ended := (h.updateSurface (sf := sf) fun u => .single (.endTable u)).endPadGestures sf .postureCancelled x
  refine .startTrack (ended.updateBeside sf ?_) sf snap v x
  exact fun _ => ⟨rfl, rfl, rfl, rfl, rfl, rfl, rfl⟩

theorem UnitsMoved.outcomeRunning {s t : State} (h : UnitsMoved s t) (sf : Surface) (snap : Snapshot) (v : FrameView)
    (x : Time) : UnitsMoved s (outcomeRunning sf snap v x t) := by
  simp only [Machine.outcomeRunning]
  split
  case h_1 =>
    refine ite_keeps (.startSettling (h.updateBeside sf ?_) sf snap v x) (h.startDiscard sf snap v x)
    exact fun _ => ⟨rfl, rfl, rfl, rfl, rfl, rfl, rfl⟩
  case h_2 =>
    refine ite_keeps (h.startSettling sf snap v x) (.startDiscard (h.updateBeside sf ?_) sf snap v x)
    exact fun _ => ⟨rfl, rfl, rfl, rfl, rfl, rfl, rfl⟩
  case h_3 =>
    exact ite_keeps (h.startDeactivation sf snap v x)
      (ite_keeps (h.startTrack sf snap v x) (h.startBankChange sf snap v x))
  case h_4 => exact h.startDiscard sf snap v x

theorem UnitsMoved.outcomeDoze {s t : State} (h : UnitsMoved s t) (sf : Surface) (snap : Snapshot) (v : FrameView)
    (x : Time) : UnitsMoved s (outcomeDoze sf snap v x t) :=
  ite_keeps (.setWork (h.handClosingIfAny sf snap v x) sf snap v _) (h.startDiscard sf snap v x)

theorem startFrame_unitsMoved (sf : Surface) (x : Time) (s : State) : UnitsMoved s (startFrame sf x s) := by
  have ready := ((consumeClear_unitsMoved x sf s).trans (takeView_unitsMoved sf (takeSnapshot s sf) _)).trans
    (closeAfterSleep_unitsMoved x sf _)
  exact ite_keeps (ready.outcomeDoze sf _ _ x) (ready.outcomeRunning sf _ _ x)

/-! ### The end of a frame's processing -/

theorem trackFrame_unitsMoved (sf : Surface) (st : FrameStart) (f : Frame) (s : State) :
    UnitsMoved s (trackFrame sf st f s) := by
  rw [trackFrame_eq]
  have tracked := (UnitsMoved.refl s).withSurface (sf := sf) (.single (.track st f _))
  exact .updateSurface (.handFrame (tracked.congr (padGestures_pad ..) (padGestures_screen ..)) sf _)
    fun u => .single (.release u)

theorem countDropped_unitsMoved (sf : Surface) (n : Nat) (s : State) : UnitsMoved s (countDropped sf n s) :=
  (UnitsMoved.refl s).updateBeside sf fun _ => ⟨rfl, rfl, rfl, rfl, rfl, rfl, rfl⟩

theorem watchFrame_unitsMoved (sf : Surface) (st : FrameStart) (f : Frame) (s : State) :
    UnitsMoved s (watchFrame sf st f s) := by
  simp only [watchFrame]
  have run (n : Nat) (hn : n ≤ 8) := (countDropped_unitsMoved sf (extractOn sf (sectionOf sf st.snap.values) f.cells).2
    s).updateSurface (sf := sf) (g := fun u => { u with wakeRun := n }) fun u => .single (.wakeRun u n hn)
  have bounded (woke : Bool) (n : Nat) : (if woke then satAdd 8 n 1 else 0) ≤ 8 := by
    cases woke <;> simp [satAdd]
  exact ite_keeps ((run _ (bounded _ _)).congr (reportWake_pad ..) (reportWake_screen ..)) (run _ (bounded _ _))

theorem processFrame_unitsMoved (sf : Surface) (st : FrameStart) (f : Frame) (s : State) :
    UnitsMoved s (processFrame sf st f s) := by
  unfold processFrame
  split
  case h_1 => exact .refl s
  case h_2 => exact trackFrame_unitsMoved sf st f s
  case h_3 => exact ite_keeps (watchFrame_unitsMoved sf st f s) (countDropped_unitsMoved sf _ s)
  case h_4 => exact countDropped_unitsMoved sf _ s

theorem endFrame_unitsMoved (sf : Surface) (st : FrameStart) (f : Frame) (s : State) :
    UnitsMoved s (endFrame sf st f s) :=
  have next := (processFrame_unitsMoved sf st f s).updateBeside sf (g := nextFrame) fun _ =>
    ⟨rfl, rfl, rfl, rfl, rfl, rfl, rfl⟩
  next.congr (drainEvents_pad _) (drainEvents_screen _)

/-! ### The command list -/

theorem UnitsMoved.finishOk {s t : State} (h : UnitsMoved s t) (f : InFlight) : UnitsMoved s (finishOk f t) :=
  h.congr (finishOk_pad f t) (finishOk_screen f t)

theorem setSurface_unitsMoved (f : InFlight) (s : State) : UnitsMoved s (setSurface f s) := by
  refine .finishOk ?_ f
  split
  · exact .of_units (.of_beside ⟨rfl, rfl, rfl, rfl, rfl, rfl, rfl⟩) .refl
  · exact ite_keeps (.of_same rfl rfl) (.of_units .refl (.of_beside ⟨rfl, rfl, rfl, rfl, rfl, rfl, rfl⟩))

theorem clearTracking_unitsMoved (f : InFlight) (s : State) : UnitsMoved s (clearTracking f s) := by
  refine .finishOk ((UnitsMoved.refl s).withSurface ?_) f
  exact .of_beside ⟨rfl, rfl, rfl, rfl, rfl, rfl, rfl⟩

theorem setPosture_unitsMoved (f : InFlight) (s : State) : UnitsMoved s (setPosture f s) := by
  simp only [setPosture]
  split <;> exact .of_same (by simp) (by simp)

theorem takeSnapshotRecord_unitsMoved (f : InFlight) (s : State) : UnitsMoved s (takeSnapshotRecord f s) :=
  ite_keeps (.of_same (finishOk_pad _ s) (finishOk_screen _ s)) (.of_same (finish_pad _ _ _ f s) (finish_screen _ _ _ f s))

theorem sleepSurface_unitSteps (sf : Surface) (u : SurfaceUnit) : UnitSteps sf u (sleepSurface u) := by
  unfold sleepSurface
  have run : UnitSteps sf u { u with wakeRun := 0 } := .single (.wakeRun u 0 (Nat.zero_le _))
  split
  · exact run.beside ⟨rfl, rfl, rfl, rfl, rfl, rfl, rfl⟩
  · exact run

theorem wakeSurface_unitSteps (sf : Surface) (active : Bool) (u : SurfaceUnit) : UnitSteps sf u (wakeSurface active u) := by
  have run : UnitSteps sf u { u with wakeRun := 0 } := .single (.wakeRun u 0 (Nat.zero_le _))
  simp only [wakeSurface]
  (repeat' split) <;> exact run.beside ⟨rfl, rfl, rfl, rfl, rfl, rfl, rfl⟩

theorem beginDoze_unitsMoved (s : State) : UnitsMoved s (beginDoze s) :=
  ite_keeps (.of_units (sleepSurface_unitSteps _ _) (sleepSurface_unitSteps _ _))
    (.of_units (sleepSurface_unitSteps _ _) (sleepSurface_unitSteps _ _))

theorem endDoze_unitsMoved (s : State) : UnitsMoved s (endDoze s) :=
  .of_units (wakeSurface_unitSteps _ _ _) (wakeSurface_unitSteps _ _ _)

theorem sleep_unitsMoved (f : InFlight) (s : State) : UnitsMoved s (sleep f s) :=
  .finishOk (ite_keeps (beginDoze_unitsMoved s) (.refl s)) f

theorem wake_unitsMoved (f : InFlight) (s : State) : UnitsMoved s (wake f s) :=
  .finishOk (ite_keeps (endDoze_unitsMoved s) (.refl s)) f

/-! ### Slots and failures -/

theorem readFrameSlot_unitsMoved (sf : Surface) (b : Byte) (s : State) : UnitsMoved s (readFrameSlot sf b s) := by
  simp only [readFrameSlot]
  split
  · exact ite_keeps ((UnitsMoved.refl s).withSurface (.of_beside ⟨rfl, rfl, rfl, rfl, rfl, rfl, rfl⟩))
      ((UnitsMoved.refl s).resumeFrames sf)
  · exact .refl s

theorem publishFrame_unitsMoved (sf : Surface) (s : State) : UnitsMoved s (publishFrame sf s) := by
  simp only [publishFrame]
  split
  case h_1 cells _ =>
    have written : UnitsMoved s (putCells s cells) := .of_same rfl rfl
    have hunit : surfaceOf (putCells s cells) sf = surfaceOf s sf := by cases sf <;> rfl
    exact .resumeFrames ((written.withSurface (hunit ▸ .single (.publish _))).congr (setCause_pad ..)
      (setCause_screen ..)) sf
  case h_2 => exact .refl s

theorem failAccess_unitsMoved (acc : Access) (o : Nat) (s : State) : UnitsMoved s (failAccess acc o s) := by
  cases acc with
  | frameSlotRead sf =>
    simp only [failAccess, failFrameRead]
    split
    · refine ite_keeps (.resumeFrames ?_ sf) (.refl s)
      exact .of_same rfl rfl
    · exact .refl s
  | frameSlotWrite sf =>
    simp only [failAccess, failFrameWrite]
    split
    · refine ite_keeps (.resumeFrames ?_ sf) (.refl s)
      exact .of_same rfl rfl
    · exact .refl s
  | penSlotRead | penSlotWrite | eventKindRead | eventWrite =>
    simp only [failAccess, failPenRead, failPenWrite, failEventRead, failEventWrite]
    (repeat' split) <;> exact .of_same rfl rfl
  | recordRead | takenWrite | dataRead | snapshotWrite | finalWrite =>
    simp only [failAccess, failRecordRead, failTaken, failDataRead, failSnapshotWrite, failFinalWrite]
    (repeat' split) <;> exact .of_same (by simp) (by simp)

/-! ### Every command -/

/-- The commands that set a surface's unit beside `UnitStep`: the resets and LOAD_ZONES. -/
def setsUnits : Instr → Bool
  | .powerOnReset _ | .resetLine _ | .loadZones _ => true
  | _ => false

theorem linkWord_unitsMoved {sf : Surface} {f : State → SurfaceUnit → SurfaceUnit} (hf : ∀ s u, Beside u (f s u))
    (s : State) : UnitsMoved s (linkWord sf f s) :=
  unlessHalted_keeps (.refl s) ((UnitsMoved.refl s).withSurface (.of_beside (hf s _)))

theorem takeRecord_unitsMoved (r : PenRecord) (s : State) : UnitsMoved s (takeRecord r s) :=
  ite_keeps (.of_same (by simp) (by simp)) (.of_same (handPen_pad ..) (handPen_screen ..))

theorem readPenSlot_unitsMoved (b : Byte) (s : State) : UnitsMoved s (readPenSlot b s) := by
  unfold readPenSlot
  (repeat' split) <;> exact .of_same rfl rfl

theorem publishSample_unitsMoved (s : State) : UnitsMoved s (publishSample s) := by
  unfold publishSample
  split <;> exact .of_same rfl rfl

theorem readEventKind_unitsMoved (k : Byte) (s : State) : UnitsMoved s (readEventKind k s) := by
  simp only [readEventKind]
  (repeat' split) <;> exact .of_same rfl rfl

theorem publishEvent_unitsMoved (s : State) : UnitsMoved s (publishEvent s) := by
  unfold publishEvent
  split <;> exact .of_same (by simp) (by simp)

theorem recordWritten_unitsMoved (s : State) : UnitsMoved s (recordWritten s) := by
  simp only [recordWritten]
  (repeat' split) <;> exact .of_same rfl rfl

theorem nextState_unitsMoved {c : Instr} (hc : setsUnits c = false) (s : State) : UnitsMoved s (nextState c s) := by
  have same : UnitsMoved s s := .refl s
  cases c with
  | powerOnReset | resetLine | loadZones => cases hc
  | lingerExpiry | pendingTapExpiry | dragLockExpiry | clockLoRead | keyactFallingEdge | clockTick => exact .of_same rfl rfl
  | startWord sf k => exact linkWord_unitsMoved (fun s u => startOn_beside s k u) s
  | cellWord sf v => exact linkWord_unitsMoved (fun s u => cellOn_beside s sf v u) s
  | endWord sf => exact linkWord_unitsMoved (fun s u => endOn_beside s sf u) s
  | frameStart sf => exact beginFrame_keeps same fun _ x => startFrame_unitsMoved sf x s
  | frameProcessingEnd sf => exact endProcessing_keeps same fun _ st f => endFrame_unitsMoved sf st f s
  | penRecord r => exact takePenRecord_keeps same (fun _ => .of_same rfl rfl) fun _ _ => takeRecord_unitsMoved r s
  | penTimeoutExpiry => exact ite_keeps (.of_same (handPen_pad ..) (handPen_screen ..)) same
  | keyactRisingEdge => exact ite_keeps same (.of_same rfl rfl)
  | typingGuardExpiry => exact ite_keeps (.of_same rfl rfl) same
  | runSet => exact unlessHalted_keeps same (setRun_unitsMoved s)
  | runClear => exact unlessHalted_keeps same (clearRun_unitsMoved s)
  | stopEnd => exact ite_keeps (endStop_unitsMoved s) same
  | notice => exact .of_same (takeNotice_pad s) (takeNotice_screen s)
  | attnMaskWrite => exact unlessHalted_keeps same (.of_same rfl rfl)
  | statusCauseClear | faultClear =>
    exact unlessHalted_keeps same (.of_same (clearCauses_pad _ s) (clearCauses_screen _ s))
  | registerWrite offset v => exact unlessHalted_keeps same (writeRegister_unitsMoved offset v s)
  | commandExamination r => exact .of_same (examine_pad r s) (examine_screen r s)
  | loadBank d => exact perform_keeps same fun f _ => .of_same (loadBank_pad d f s) (loadBank_screen d f s)
  | setPostureMap | setHand | setPublish =>
    exact perform_keeps same fun f _ => .of_same (finishOk_pad f _) (finishOk_screen f _)
  | setPosture => exact perform_keeps same fun f _ => setPosture_unitsMoved f s
  | setSurface => exact perform_keeps same fun f _ => setSurface_unitsMoved f s
  | clearTracking => exact perform_keeps same fun f _ => clearTracking_unitsMoved f s
  | sleep => exact perform_keeps same fun f _ => sleep_unitsMoved f s
  | wake => exact perform_keeps same fun f _ => wake_unitsMoved f s
  | snapshot => exact perform_keeps same fun f _ => takeSnapshotRecord_unitsMoved f s
  | commandCompletion => exact .of_same (complete_pad s) (complete_screen s)
  | frameSlotStateRead sf b => exact readFrameSlot_unitsMoved sf b s
  | frameSlotPublished sf => exact publishFrame_unitsMoved sf s
  | penSlotStateRead b => exact readPenSlot_unitsMoved b s
  | penSlotPublished => exact publishSample_unitsMoved s
  | eventKindRead k => exact readEventKind_unitsMoved k s
  | eventPublished => exact publishEvent_unitsMoved s
  | accessFailure acc o => exact failAccess_unitsMoved acc _ s
  | readTimeout acc o => exact ite_keeps (failAccess_unitsMoved acc _ s) same
  | faultRecorded => exact recordWritten_unitsMoved s
  | faultRecordWriteFailure => exact ite_keeps (enterHalted_unitsMoved s) same

/-! ### LOAD_ZONES -/

/-- From `s` to `t` a surface has changed in its zone table alone, if at all. -/
def ZonesOnly (s t : State) : Prop :=
  ∀ sf, surfaceOf t sf = { surfaceOf s sf with zones := (surfaceOf t sf).zones }

theorem ZonesOnly.of_same {s t : State} (hpad : t.pad = s.pad) (hscreen : t.screen = s.screen) :
    ZonesOnly s t := fun sf => by
  cases sf with
  | pad => rw [surfaceOf_pad, surfaceOf_pad, hpad]
  | screen => rw [surfaceOf_screen, surfaceOf_screen, hscreen]

theorem concludeZones_zonesOnly (sf : Surface) (n : Nat) (g : ZoneStaging) (f : InFlight) (s : State) :
    ZonesOnly s (concludeZones sf n g f s) := fun sf' => by
  cases sf <;> cases sf' <;> simp [concludeZones, putZones]

theorem loadZones_zonesOnly (d : List (BitVec 128)) (f : InFlight) (s : State) : ZonesOnly s (loadZones d f s) := by
  simp only [loadZones, applyZones]
  split
  · exact .of_same (finish_pad ..) (finish_screen ..)
  · split
    · exact concludeZones_zonesOnly _ _ _ f s
    · exact .of_same (readOn_pad ..) (readOn_screen ..)

theorem nextState_loadZones_zonesOnly (d : List (BitVec 128)) (s : State) :
    ZonesOnly s (nextState (.loadZones d) s) :=
  perform_keeps (.of_same rfl rfl) fun f _ => loadZones_zonesOnly d f s

/-- What every change of a unit keeps, and a new zone table too, holds of a unit after every command if it held
before and holds after reset. -/
theorem nextState_unit_keeps {P : SurfaceUnit → Prop} {sf : Surface} (hreset : P resetSurface)
    (hstep : ∀ u v, UnitStep sf u v → P u → P v) (hzones : ∀ u z, P u → P { u with zones := z })
    (c : Instr) (s : State) (hs : P (surfaceOf s sf)) : P (surfaceOf (nextState c s) sf) := by
  have steps {u v : SurfaceUnit} (h : UnitSteps sf u v) (hu : P u) : P v := by
    induction h with
    | refl => exact hu
    | tail _ hvw hv => exact hstep _ _ hvw hv
  cases c with
  | powerOnReset | resetLine => cases sf <;> exact hreset
  | loadZones d =>
    rw [nextState_loadZones_zonesOnly d s sf]
    exact hzones _ _ hs
  | _ => exact steps (nextState_unitsMoved rfl s sf) hs

end Sys2Proof.Machine
end

section
/-! The contact tables (R43, R68, R69): the slots of a table stay sound, and no contact is FINGER or retracted
before it has been confirmed, through every change of a surface's unit. -/

namespace Sys2Proof.Machine

/-! ### Slots (R43, R51) -/

/-- Slot numbers in range, none twice. -/
def SlotNumbersSound (n : Nat) (l : List Nat) : Prop := l.Nodup ∧ ∀ i ∈ l, i < n

theorem slotsSound_iff (sf : Surface) (u : SurfaceUnit) :
    SlotsSound sf u ↔ SlotNumbersSound (Config.tableSlots sf) (u.table.map (·.slot)) := by
  unfold SlotsSound SlotNumbersSound
  rw [List.forall_mem_map]

theorem SlotNumbersSound.perm {n : Nat} {l m : List Nat} (h : SlotNumbersSound n l) (hp : m.Perm l) :
    SlotNumbersSound n m := by
  obtain ⟨hnodup, hbound⟩ := h
  exact ⟨hp.nodup_iff.2 hnodup, fun i hi => hbound i (hp.mem_iff.1 hi)⟩

theorem SlotNumbersSound.sublist {n : Nat} {l m : List Nat} (h : SlotNumbersSound n l) (hs : m.Sublist l) :
    SlotNumbersSound n m := by
  obtain ⟨hnodup, hbound⟩ := h
  exact ⟨hnodup.sublist hs, fun i hi => hbound i (hs.subset hi)⟩

@[simp] theorem newContact_slot (p : SurfaceParams) (z : ZoneTable) (t : Time) (slot id : Nat) (n : BitVec 32) (b : Blob) :
    (newContact p z t slot id n b).slot = slot := rfl

/-- A new contact takes a free slot in range, or the blob is discarded. -/
theorem createOne_slots (sf : Surface) (p : SurfaceParams) (z : ZoneTable) (t : Time) (ids : List Nat) (c : Creation)
    (b : Blob) (h : SlotNumbersSound (Config.tableSlots sf) (c.table.map (·.slot))) :
    SlotNumbersSound (Config.tableSlots sf) ((createOne sf p z t ids c b).table.map (·.slot)) := by
  obtain ⟨hnodup, hbound⟩ := h
  unfold createOne
  split
  case h_1 => exact ⟨hnodup, hbound⟩
  case h_2 slot hfree =>
    obtain ⟨hlt, hunused⟩ := freeSlot_free hfree
    simp only [List.map_append, List.map_cons, List.map_nil, newContact_slot]
    refine ⟨List.nodup_append.2 ⟨hnodup, List.nodup_singleton _, ?_⟩, fun i hi => ?_⟩
    · intro a ha b hb
      obtain ⟨k, hk, rfl⟩ := List.mem_map.1 ha
      rw [List.mem_singleton.1 hb]
      exact hunused k hk
    · rcases List.mem_append.1 hi with hi | hi
      · exact hbound i hi
      · rw [List.mem_singleton.1 hi]
        exact hlt

theorem createAll_slots (sf : Surface) (p : SurfaceParams) (z : ZoneTable) (t : Time) (ids : List Nat) (bs : List Blob)
    (c : Creation) (h : SlotNumbersSound (Config.tableSlots sf) (c.table.map (·.slot))) :
    SlotNumbersSound (Config.tableSlots sf) ((bs.foldl (createOne sf p z t ids) c).table.map (·.slot)) := by
  induction bs generalizing c with
  | nil => exact h
  | cons b bs ih => exact ih _ (createOne_slots sf p z t ids c b h)

@[simp] theorem updateDisplacement_slot (k : Contact) : (updateDisplacement k).slot = k.slot := by
  unfold updateDisplacement
  (repeat' split) <;> rfl

theorem trackedCreation_slots (sf : Surface) (st : FrameStart) (f : Frame) (u : SurfaceUnit)
    (h : SlotNumbersSound (Config.tableSlots sf) (u.table.map (·.slot))) :
    SlotNumbersSound (Config.tableSlots sf) ((trackedCreation sf st f u).table.map (·.slot)) := by
  refine createAll_slots sf _ _ _ _ _ _ ?_
  simp only [matchContacts_slots]
  refine h.perm (((byCreation_perm _ _).map _).trans ?_)
  split
  · rw [List.map_map]; rfl
  · exact .refl _

theorem trackedTable_slots (sf : Surface) (st : FrameStart) (f : Frame) (u : SurfaceUnit) :
    ((trackedTable sf st f u).map (·.slot)).Perm ((trackedCreation sf st f u).table.map (·.slot)) := by
  have hslot : (fun k => (updateDisplacement k).slot) = fun k => k.slot := funext updateDisplacement_slot
  rw [trackedTable, List.map_map, Function.comp_def, hslot, trackedClasses, classifyTable_slots]
  exact (byCreation_perm _ _).map _

theorem releaseEnded_slots (u : SurfaceUnit) :
    ((releaseEnded u).table.map (·.slot)).Sublist (u.table.map (·.slot)) := by
  simp only [releaseEnded, List.map_map, Function.comp_def]
  exact List.filter_sublist.map _

theorem unitStep_slotsSound {sf : Surface} {u v : SurfaceUnit} (h : UnitStep sf u v) (hu : SlotsSound sf u) :
    SlotsSound sf v := by
  rw [slotsSound_iff] at hu ⊢
  cases h with
  | beside h => rwa [h.table]
  | wakeRun | emptyClosing | restart | publish => exact hu
  | endTable | emptyTable => exact ⟨List.nodup_nil, fun _ hi => absurd hi List.not_mem_nil⟩
  | track st f => exact (trackedCreation_slots sf st f u hu).perm (trackedTable_slots sf st f u)
  | release => exact hu.sublist (releaseEnded_slots u)

/-- Settles O7: every change of a unit keeps its slots sound. -/
theorem stepKeepsTableSlotsSound : Obligations.StepKeepsTableSlotsSound := fun _ _ =>
  step_keeps (P := TablesSound) (fun _ _ h => h) fun c s ⟨hpad, hscreen⟩ =>
    have keeps (sf : Surface) := nextState_unit_keeps (resetSurface_slotsSound sf)
      (fun _ _ => unitStep_slotsSound) (fun _ _ h => h) c s
    ⟨keeps .pad hpad, keeps .screen hscreen⟩

/-! ### Confirmation (R68, R69) -/

/-- Whether a contact is sound hangs on its class, since_confirm and retracted marker alone. -/
theorem SoundContact.congr {k k' : Contact} (h : SoundContact k) (hcls : k'.cls = k.cls)
    (hsince : k'.sinceConfirm = k.sinceConfirm) (hmark : k'.retractedMark = k.retractedMark) : SoundContact k' := by
  unfold SoundContact ConfirmedFirst RetractedIsFinal at h ⊢
  rwa [hcls, hsince, hmark]

theorem takeBlob_sound (p : SurfaceParams) (g : Bool) (b : Blob) {k : Contact} (h : SoundContact k) :
    SoundContact (takeBlob p g b k) := h.congr rfl rfl rfl

theorem missBlob_sound (n : Nat) {k : Contact} (h : SoundContact k) : SoundContact (missBlob n k) := by
  unfold missBlob
  split <;> exact h.congr rfl rfl rfl

theorem newContact_sound (p : SurfaceParams) (z : ZoneTable) (t : Time) (slot id : Nat) (n : BitVec 32) (b : Blob) :
    SoundContact (newContact p z t slot id n b) := by
  simp [SoundContact, ConfirmedFirst, RetractedIsFinal, newContact]

theorem matchContacts_sound (p : SurfaceParams) (g : Bool) (ks : List Contact) (bs : List Blob)
    (h : ∀ k ∈ ks, SoundContact k) : ∀ k ∈ (matchContacts p g ks bs).1, SoundContact k := by
  induction ks generalizing bs with
  | nil => exact h
  | cons k ks ih =>
    have hk := h k (List.mem_cons_self ..)
    have hks := fun bs => ih bs fun x hx => h x (List.mem_cons_of_mem _ hx)
    simp only [matchContacts]
    split
    · exact List.forall_mem_cons.2 ⟨hk, hks bs⟩
    · split
      · exact List.forall_mem_cons.2 ⟨takeBlob_sound p g _ hk, hks _⟩
      · exact List.forall_mem_cons.2 ⟨missBlob_sound _ hk, hks bs⟩

theorem createAll_sound (sf : Surface) (p : SurfaceParams) (z : ZoneTable) (t : Time) (ids : List Nat) (bs : List Blob)
    (c : Creation) (h : ∀ k ∈ c.table, SoundContact k) :
    ∀ k ∈ (bs.foldl (createOne sf p z t ids) c).table, SoundContact k := by
  induction bs generalizing c with
  | nil => exact h
  | cons b bs ih =>
    refine ih _ ?_
    unfold createOne
    split
    · exact h
    · exact List.forall_mem_append.2 ⟨h, fun k hk => List.mem_singleton.1 hk ▸ newContact_sound ..⟩

theorem trackedCreation_sound (sf : Surface) (st : FrameStart) (f : Frame) (u : SurfaceUnit)
    (h : ∀ k ∈ u.table, SoundContact k) : ∀ k ∈ (trackedCreation sf st f u).table, SoundContact k := by
  refine createAll_sound sf _ _ _ _ _ _ (matchContacts_sound _ _ _ _ fun k hk => ?_)
  have hk := mem_byCreation.1 hk
  split at hk
  · obtain ⟨k, hmem, rfl⟩ := List.mem_map.1 hk
    exact (h k hmem).congr rfl rfl rfl
  · exact h k hk

/-- A contact retracted because fingers are off was a FINGER, hence confirmed (R86). -/
theorem suspendContact_sound (v : FrameView) {k : Contact} (h : SoundContact k) : SoundContact (suspendContact v k).1 := by
  have ⟨hconfirmed, _⟩ := h
  unfold suspendContact
  split
  case isTrue hoff =>
    simp only [endingRetracts, Bool.and_eq_true, beq_iff_eq] at hoff
    obtain ⟨-, hfinger, -⟩ := hoff
    exact ⟨fun _ => hconfirmed (.inl hfinger), fun _ => .inr rfl⟩
  case isFalse => exact h

theorem classifyFrom_sound (sf : Surface) (b : Bank) (v : FrameView) (done ks : List Contact)
    (h : ∀ k ∈ ks, SoundContact k) : ∀ q ∈ classifyFrom sf b v done ks, SoundContact q.1 := by
  induction ks generalizing done with
  | nil => exact fun _ hq => absurd hq List.not_mem_nil
  | cons k ks ih =>
    exact List.forall_mem_cons.2 ⟨classifyContact_sound sf b v _ k (h k (List.mem_cons_self ..)),
      ih _ fun x hx => h x (List.mem_cons_of_mem _ hx)⟩

theorem classifyTable_sound (sf : Surface) (b : Bank) (v : FrameView) (l : List Contact) (h : ∀ k ∈ l, SoundContact k) :
    ∀ k ∈ (classifyTable sf b v l).table, SoundContact k := by
  refine List.forall_mem_map.2 (classifyFrom_sound sf b v [] _ ?_)
  rw [List.map_map]
  exact List.forall_mem_map.2 fun k hk => suspendContact_sound v (h k hk)

theorem updateDisplacement_sound {k : Contact} (h : SoundContact k) : SoundContact (updateDisplacement k) := by
  unfold updateDisplacement
  (repeat' split) <;> exact h.congr rfl rfl rfl

theorem trackedTable_sound (sf : Surface) (st : FrameStart) (f : Frame) (u : SurfaceUnit)
    (h : ∀ k ∈ u.table, SoundContact k) : ∀ k ∈ trackedTable sf st f u, SoundContact k := by
  refine List.forall_mem_map.2 fun k hk => updateDisplacement_sound (classifyTable_sound sf _ _ _ (fun k hk => ?_) k hk)
  exact trackedCreation_sound sf st f u h k (mem_byCreation.1 hk)

/-- Every contact of a surface is confirmed before FINGER or retracted. -/
def UnitConfirmedFirst (u : SurfaceUnit) : Prop :=
  (∀ k ∈ u.table, SoundContact k) ∧ ∀ k ∈ u.closing, ConfirmedFirst k

/-- A whole-table ending retracts FINGER contacts alone (R87). -/
theorem closeContact_confirmedFirst {k : Contact} (h : SoundContact k) : ConfirmedFirst (closeContact k) := by
  obtain ⟨hconfirmed, -⟩ := h
  intro hclosed
  refine hconfirmed ?_
  simp only [closeContact, endingRetracts, Bool.or_eq_true, Bool.and_eq_true, beq_iff_eq] at hclosed
  tauto

theorem unitStep_confirmedFirst {sf : Surface} {u v : SurfaceUnit} (h : UnitStep sf u v) (hu : UnitConfirmedFirst u) :
    UnitConfirmedFirst v := by
  obtain ⟨htable, hclosing⟩ := hu
  have none (Q : Contact → Prop) : ∀ k ∈ ([] : List Contact), Q k := fun _ hk => absurd hk List.not_mem_nil
  cases h with
  | beside h => unfold UnitConfirmedFirst; rw [h.table, h.closing]; exact ⟨htable, hclosing⟩
  | wakeRun | restart | publish => exact ⟨htable, hclosing⟩
  | emptyClosing => exact ⟨htable, none _⟩
  | emptyTable => exact ⟨none _, hclosing⟩
  | endTable =>
    refine ⟨none _, List.forall_mem_append.2 ⟨hclosing, List.forall_mem_map.2 fun k hk => ?_⟩⟩
    exact closeContact_confirmedFirst (htable k (mem_byCreation.1 hk))
  | track st f => exact ⟨trackedTable_sound sf st f u htable, hclosing⟩
  | release =>
    refine ⟨List.forall_mem_map.2 fun k hk => ?_, none _⟩
    exact (htable k (List.mem_filter.1 hk).1).congr rfl rfl rfl

/-- Settles O8: every change of a unit keeps its contacts confirmed first. -/
theorem stepKeepsContactsConfirmedFirst : Obligations.StepKeepsContactsConfirmedFirst := fun _ _ =>
  step_keeps (P := ContactsConfirmedFirst) (fun _ _ h => h) fun c s hs sf =>
    nextState_unit_keeps (P := UnitConfirmedFirst) (reset_contactsConfirmedFirst .pad)
      (fun _ _ => unitStep_confirmedFirst) (fun _ _ h => h) c s (hs sf)

end Sys2Proof.Machine
end

section
/-! The ranges of the counters and positions outside the surfaces: the holding queue and the event write
position, the pen publish index, the scan position, the counter of gestures granted, the later-fault count.
`RangesKept` says of two states that none of them has left its range from the one to the other; it is shown of
each shared operation once and then command by command. -/

namespace Sys2Proof.Machine

/-! ### Keeping ranges -/

/-- From `s` to `t` no queue, position or count outside the surfaces has left its range. -/
structure RangesKept (s t : State) : Prop where
  queue : s.events.queue.length ≤ 8 → t.events.queue.length ≤ 8
  position : s.events.position < 32 → t.events.position < 32
  penIndex : s.penOut.index < 8 → t.penOut.index < 8
  scan : s.command.scan < 16 → t.command.scan < 16
  counter : s.gestures.counter ≤ 255 → t.gestures.counter ≤ 255
  later : s.fault.later ≤ 255 → t.fault.later ≤ 255

theorem RangesKept.refl (s : State) : RangesKept s s := ⟨id, id, id, id, id, id⟩

theorem RangesKept.trans {s t u : State} (h : RangesKept s t) (h' : RangesKept t u) : RangesKept s u :=
  ⟨h'.queue ∘ h.queue, h'.position ∘ h.position, h'.penIndex ∘ h.penIndex, h'.scan ∘ h.scan, h'.counter ∘ h.counter,
    h'.later ∘ h.later⟩

theorem RangesKept.of_same {s t : State} (hevents : t.events = s.events) (hpenOut : t.penOut = s.penOut)
    (hcommand : t.command = s.command) (hgestures : t.gestures = s.gestures) (hfault : t.fault = s.fault) :
    RangesKept s t := by
  constructor <;> simp only [hevents, hpenOut, hcommand, hgestures, hfault, imp_self]

/-- The state after counts only by the blocks named. -/
theorem RangesKept.congr {s t u : State} (h : RangesKept s t) (hevents : u.events = t.events)
    (hpenOut : u.penOut = t.penOut) (hcommand : u.command = t.command) (hgestures : u.gestures = t.gestures)
    (hfault : u.fault = t.fault) : RangesKept s u := h.trans (.of_same hevents hpenOut hcommand hgestures hfault)

/-! ### The Publisher -/

theorem RangesKept.runEvents (fenced : Bool) (now : Time) (l : List (Option Event)) {s t : State} {p : EventPublisher}
    (h : RangesKept s { t with events := p }) : RangesKept s { t with events := runEvents fenced now l p } := by
  obtain ⟨hposition, hqueue⟩ := runEvents_spec fenced now l p
  exact h.trans ⟨hqueue, fun hp => hposition ▸ hp, id, id, id, id⟩

theorem RangesKept.handItems {s t : State} (h : RangesKept s t) (l : List (Option Event)) :
    RangesKept s (handItems t l) := .runEvents _ _ _ (p := t.events) h

theorem RangesKept.handEvents {s t : State} (h : RangesKept s t) (l : List Event) : RangesKept s (handEvents t l) :=
  h.handItems _

theorem RangesKept.drainEvents {s t : State} (h : RangesKept s t) : RangesKept s (drainEvents t) := h.handItems _

/-- The event access has ended: the event publisher as `q`, which keeps its ranges, and what waited taken. -/
theorem RangesKept.resumeEvents {s t : State} {q : EventPublisher} (h : RangesKept s { t with events := q }) :
    RangesKept s (resumeEvents t q) :=
  .runEvents _ _ _ (p := { q with access := .none }) ⟨h.queue, h.position, h.penIndex, h.scan, h.counter, h.later⟩

theorem holdFresh_position (x : Option Event) (p : EventPublisher) : (holdFresh x p).position = p.position := by
  cases x with
  | none => rfl
  | some e =>
    simp only [holdFresh, holdEvent]
    (repeat' split) <;> rfl

theorem RangesKept.holdFresh {s t : State} (h : RangesKept s t) (x : Option Event) :
    RangesKept s { t with events := holdFresh x t.events } :=
  h.trans ⟨holdFresh_length x t.events, fun hp => (holdFresh_position x t.events).symm ▸ hp, id, id, id, id⟩

theorem afterEventWritten_rangesKept (x : Option Event) (loss : Bool) (s : State) :
    RangesKept s (afterEventWritten s x loss) := by
  have hqueue : s.events.queue.length ≤ 8 → s.events.queue.tail.length ≤ 8 := fun h => by
    rw [List.length_tail]; exact (Nat.sub_le _ _).trans h
  have hposition : s.events.position < 32 → (s.events.position + 1) % 32 < 32 := fun _ => Nat.mod_lt _ (by decide)
  refine ite_keeps (.resumeEvents ?_) ?_ <;> exact ⟨hqueue, hposition, id, id, id, id⟩

theorem RangesKept.handSamples {s t : State} (h : RangesKept s t) (l : List PenSample) :
    RangesKept s (handSamples t l) :=
  h.trans ⟨id, id, fun hp => (runSamples_index _ _ _ _).symm ▸ hp, id, id, id⟩

theorem RangesKept.resumeSamples {s t : State} (h : RangesKept s t) : RangesKept s (resumeSamples t) :=
  h.trans ⟨id, id, fun hp => (runSamples_index _ _ _ _).symm ▸ hp, id, id, id⟩

theorem RangesKept.handPen {s t : State} (h : RangesKept s t) (p : PenStep) : RangesKept s (handPen t p) := by
  have moved : RangesKept s { t with pen := p.channel } := h.congr rfl rfl rfl rfl rfl
  exact ite_keeps ((moved.handEvents _).handSamples _) moved

theorem RangesKept.reportWake {s t : State} (h : RangesKept s t) (k n : Nat) (x : Time) :
    RangesKept s (reportWake k n x t) := by
  have marked : RangesKept s (setCause { t with wakeReported := true } .wake) := h.congr rfl rfl rfl rfl rfl
  exact ite_keeps h (marked.handEvents _)

/-! ### The Fault Unit and the Command Unit -/

theorem startRecordWrite_later (r : Registers) (f : FaultUnit) : (startRecordWrite r f).later = f.later := by
  unfold startRecordWrite
  split <;> rfl

theorem queueRecordWrite_later (r : Registers) (f : FaultUnit) : (queueRecordWrite r f).later = f.later := by
  unfold queueRecordWrite
  split
  · rfl
  · exact startRecordWrite_later r f

theorem report_later_le (s : State) (t : Stream) (w : Bool) (o : Nat) : (report s t w o).fault.later ≤ 255 := by
  simp only [report, queueRecordWrite_later]
  split
  · exact Nat.zero_le _
  · exact Nat.min_le_right _ _

theorem RangesKept.report {s t : State} (h : RangesKept s t) (x : Stream) (w : Bool) (o : Nat) :
    RangesKept s (report t x w o) := h.trans ⟨id, id, id, id, id, fun _ => report_later_le t x w o⟩

theorem RangesKept.failStream {s t : State} (h : RangesKept s t) (x : Stream) (w : Bool) (o : Nat) :
    RangesKept s (failStream t x w o) := (h.report x w o).congr rfl rfl rfl rfl rfl

/-- The Command Unit replaced by one whose scan position is in range. -/
theorem RangesKept.withCommand {s t : State} (h : RangesKept s t) {c : CommandUnit}
    (hc : t.command.scan < 16 → c.scan < 16) : RangesKept s (withCommand t c) := h.trans ⟨id, id, id, hc, id, id⟩

theorem scanAfter_lt (c : CommandUnit) (p : Pass) (h : c.scan < 16) : scanAfter c p < 16 := by
  unfold scanAfter
  split
  · exact Nat.mod_lt _ (by decide)
  · exact h

theorem RangesKept.takeRescan {s t : State} (h : RangesKept s t) : RangesKept s (takeRescan t) :=
  ite_keeps ((h.withCommand id).withCommand id) h

theorem RangesKept.endPass {s t : State} (h : RangesKept s t) : RangesKept s (endPass t) := by
  unfold Machine.endPass
  split
  · exact (h.withCommand fun hscan => scanAfter_lt _ _ hscan).takeRescan
  · exact h

theorem RangesKept.advance {s t : State} (h : RangesKept s t) : RangesKept s (advance t) := by
  unfold Machine.advance
  split
  · split
    · exact h.withCommand id
    · exact h.endPass
  · exact h

theorem RangesKept.markTaken {s t : State} (h : RangesKept s t) (i : Nat) : RangesKept s (markTaken i t) := by
  unfold Machine.markTaken
  split
  · exact h.withCommand id
  · exact h

theorem takeNotice_rangesKept (s : State) : RangesKept s (takeNotice s) :=
  have same : RangesKept s s := .refl s
  ite_keeps same (ite_keeps (same.withCommand id) (same.withCommand id))

theorem RangesKept.ackTaken {s t : State} (h : RangesKept s t) (f : InFlight) : RangesKept s (ackTaken f t) :=
  ite_keeps h (h.congr rfl rfl rfl rfl rfl)

theorem RangesKept.finish {s t : State} (h : RangesKept s t) (r d : Nat) (l : List Byte) (f : InFlight) :
    RangesKept s (finish r d l f t) := (h.ackTaken f).withCommand id

theorem RangesKept.finishOk {s t : State} (h : RangesKept s t) (f : InFlight) : RangesKept s (finishOk f t) :=
  h.finish _ _ _ f

theorem RangesKept.readOn {s t : State} (h : RangesKept s t) (f : InFlight) : RangesKept s (readOn f t) :=
  (h.ackTaken f).withCommand id

theorem RangesKept.releaseCommand {s t : State} (h : RangesKept s t) (f : InFlight) :
    RangesKept s (releaseCommand f t) := by
  have released : RangesKept s (Machine.withCommand (Machine.markTaken f.index t)
    { (Machine.markTaken f.index t).command with inFlight := none }) := (h.markTaken _).withCommand id
  exact .advance (ite_keeps (released.congr rfl rfl rfl rfl rfl) released)

theorem examine_rangesKept (r : BitVec 512) (s : State) : RangesKept s (examine r s) := by
  have same : RangesKept s s := .refl s
  unfold examine
  split
  · refine ite_keeps ?_ same.advance
    simp only [takeCommand]
    (repeat' split) <;> exact same.withCommand id
  · exact same

/-! ### The Gesture Engine -/

theorem nextInstance_le {n : Nat} (h : n ≤ 255) : nextInstance n ≤ 255 := by
  unfold nextInstance
  split <;> omega

theorem endMember_counter (f : GestureInput) (w : GestureWork) (v : Service) :
    (endMember f w v).engine.counter = w.engine.counter := by
  unfold endMember
  split <;> rfl

theorem stageEnds_counter (f : GestureInput) (w : GestureWork) : (stageEnds f w).engine.counter = w.engine.counter := by
  unfold stageEnds
  split
  · rfl
  · split
    · rfl
    · split
      · exact endMember_counter f w _
      · rfl

theorem joinDrag_counter (f : GestureInput) (k : Contact) (w : GestureWork) :
    (joinDrag f k w).engine.counter = w.engine.counter := by
  simp only [joinDrag]
  split
  · split
    · split
      · exact endMember_counter f _ _
      · rfl
    · rfl
  · rfl

theorem firstFinger_counter_le (f : GestureInput) (k : Contact) (w : GestureWork) (h : w.engine.counter ≤ 255) :
    (firstFinger f k w).engine.counter ≤ 255 := by
  simp only [firstFinger, dragTest]
  (repeat' split) <;> first | exact h | exact nextInstance_le h

theorem stageConfirmations_counter_le (f : GestureInput) (w : GestureWork) (h : w.engine.counter ≤ 255) :
    (stageConfirmations f w).engine.counter ≤ 255 := by
  unfold stageConfirmations
  split
  · exact h
  · exact firstFinger_counter_le f _ _ (by rwa [joinDrag_counter])

theorem stageReference_counter (f : GestureInput) (w : GestureWork) :
    (stageReference f w).engine.counter = w.engine.counter := by
  simp only [stageReference]
  split <;> rfl

theorem stageClaims_counter_le (f : GestureInput) (w : GestureWork) (h : w.engine.counter ≤ 255) :
    (stageClaims f w).engine.counter ≤ 255 := by
  simp only [stageClaims, grantClaim]
  (repeat' split) <;> first | exact h | exact nextInstance_le h

theorem stageSteps_counter (f : GestureInput) (w : GestureWork) : (stageSteps f w).engine.counter = w.engine.counter := by
  simp only [stageSteps]
  (repeat' split) <;> rfl

theorem stageSequence_counter (f : GestureInput) (w : GestureWork) :
    (stageSequence f w).engine.counter = w.engine.counter := by
  simp only [stageSequence, takeTap]
  (repeat' split) <;> rfl

theorem gestureStages_counter_le (f : GestureInput) (g : GestureEngine) (h : g.counter ≤ 255) :
    (gestureStages f g).engine.counter ≤ 255 := by
  rw [gestureStages, stageSequence_counter, stageSteps_counter]
  refine stageClaims_counter_le f _ ?_
  rw [stageReference_counter]
  refine stageConfirmations_counter_le f _ ?_
  rwa [stageEnds_counter]

theorem expireTap_counter (now : Time) (g : GestureEngine) : (expireTap now g).1.counter = g.counter := by
  unfold expireTap
  (repeat' split) <;> rfl

theorem expireLock_counter (now : Time) (g : GestureEngine) : (expireLock now g).1.counter = g.counter := by
  unfold expireLock
  (repeat' split) <;> rfl

theorem applyFloor_counter (n : Nat) (t : Time) (g : GestureEngine) : (applyFloor n t g).1.counter = g.counter := by
  simp only [applyFloor]
  (repeat' split) <;> rfl

theorem gestureFrame_counter_le (f : GestureInput) (now : Time) (g : GestureEngine) (h : g.counter ≤ 255) :
    (gestureFrame f now g).1.counter ≤ 255 := by
  simp only [gestureFrame, expireLock_counter, expireTap_counter]
  exact gestureStages_counter_le f g h

theorem RangesKept.withGestures {s t : State} (h : RangesKept s t) {g : GestureEngine × List Event}
    (hg : t.gestures.counter ≤ 255 → g.1.counter ≤ 255) : RangesKept s (withGestures g t) := by
  refine .handEvents (h.trans ?_) _
  exact ⟨id, id, id, id, hg, id⟩

theorem RangesKept.endPadGestures {s t : State} (h : RangesKept s t) (sf : Surface) (o : EndOutcome) (x : Time) :
    RangesKept s (endPadGestures t sf o x) := by
  cases sf with
  | pad => exact h.withGestures (g := endGestures o x t.gestures) id
  | screen => exact h

theorem RangesKept.padFloor {s t : State} (h : RangesKept s t) (sf : Surface) (snap : Snapshot) (x : Time) :
    RangesKept s (padFloor sf snap x t) := by
  cases sf with
  | pad => exact h.withGestures (g := applyFloor _ x t.gestures) fun hc => (applyFloor_counter ..).symm ▸ hc
  | screen => exact h

theorem RangesKept.padGestures {s t : State} (h : RangesKept s t) (sf : Surface) (st : FrameStart) (f : Frame)
    (r : Classification) (l : List Contact) : RangesKept s (padGestures sf st f r l t) := by
  cases sf with
  | pad => exact h.withGestures (g := gestureFrame _ t.clock t.gestures) fun hc => gestureFrame_counter_le _ _ _ hc
  | screen => exact h

/-! ### Run control and registers -/

theorem tryStart_rangesKept (s : State) : RangesKept s (tryStart s) :=
  ite_keeps ⟨id, fun _ => Nat.succ_pos 31, fun _ => Nat.succ_pos 7, fun _ => Nat.succ_pos 15, id, id⟩
    (.of_same rfl rfl rfl rfl rfl)

theorem setRun_rangesKept (s : State) : RangesKept s (setRun s) :=
  ite_keeps (.refl s) (ite_keeps (tryStart_rangesKept s) (.of_same rfl rfl rfl rfl rfl))

theorem beginStop_rangesKept (s : State) : RangesKept s (beginStop s) := by
  refine ⟨id, id, id, fun hscan => ?_, id, id⟩
  simp only [beginStop]
  (repeat' split)
  · exact hscan
  · exact scanAfter_lt _ _ hscan
  · exact hscan

theorem clearRun_rangesKept (s : State) : RangesKept s (clearRun s) := by
  have cleared : RangesKept s { s with regs := { s.regs with run := false } } := .of_same rfl rfl rfl rfl rfl
  exact ite_keeps (ite_keeps (cleared.trans (beginStop_rangesKept _)) cleared) (.refl s)

theorem stopped_rangesKept (s : State) : RangesKept s (stopped s) := ⟨fun _ => Nat.zero_le _, id, id, id, id, id⟩

theorem endStop_rangesKept (s : State) : RangesKept s (endStop s) :=
  ite_keeps ((stopped_rangesKept s).trans (tryStart_rangesKept _)) (stopped_rangesKept s)

theorem enterHalted_rangesKept (s : State) : RangesKept s (enterHalted s) := ⟨fun _ => Nat.zero_le _, id, id, id, id, id⟩

theorem reopen_rangesKept (s : State) : RangesKept s (reopen s) := by
  have rearmed : RangesKept s { s with regs := { s.regs with fenced := noFences }, fault := rearm s.fault } :=
    ⟨id, id, id, id, id, fun _ => Nat.zero_le _⟩
  exact ite_keeps rearmed.takeRescan rearmed

theorem clearCauses_rangesKept (ones : BitVec 7) (s : State) : RangesKept s (clearCauses ones s) := by
  have cleared : RangesKept s { s with regs := { s.regs with causes := s.regs.causes &&& ~~~ones } } :=
    .of_same rfl rfl rfl rfl rfl
  exact ite_keeps (cleared.trans (reopen_rangesKept _)) cleared

theorem writeControl_rangesKept (v : BitVec 32) (s : State) : RangesKept s (writeControl v s) := by
  have run : RangesKept s (if v.getLsbD 0 then setRun s else clearRun s) :=
    ite_keeps (setRun_rangesKept s) (clearRun_rangesKept s)
  have masked := run.congr (u := writeMask (v.extractLsb' 8 7) _) rfl rfl rfl rfl rfl
  exact ite_keeps (masked.trans (takeNotice_rangesKept _)) masked

theorem writeRegister_rangesKept (offset : BitVec 8) (v : BitVec 32) (s : State) :
    RangesKept s (writeRegister offset v s) := by
  unfold writeRegister
  split
  case h_1 => exact writeControl_rangesKept v s
  case h_2 => exact clearCauses_rangesKept _ s
  case h_3 => exact ite_keeps (.of_same rfl rfl rfl rfl rfl) (.refl s)
  case h_4 => exact ite_keeps (.of_same rfl rfl rfl rfl rfl) (.refl s)
  case h_5 => exact .refl s

/-! ### Frames -/

theorem RangesKept.withSurface {s t : State} (h : RangesKept s t) (sf : Surface) (u : SurfaceUnit) :
    RangesKept s (withSurface t sf u) :=
  h.congr (withSurface_events ..) (withSurface_penOut ..) (withSurface_command ..) (withSurface_gestures ..)
    (withSurface_fault ..)

theorem RangesKept.updateSurface {s t : State} (h : RangesKept s t) (sf : Surface) (g : SurfaceUnit → SurfaceUnit) :
    RangesKept s (updateSurface t sf g) := h.withSurface sf _

theorem RangesKept.handFrame {s t : State} (h : RangesKept s t) (sf : Surface) (x : Handover) :
    RangesKept s (handFrame t sf x) := h.withSurface sf _

theorem RangesKept.resumeFrames {s t : State} (h : RangesKept s t) (sf : Surface) : RangesKept s (resumeFrames t sf) :=
  h.withSurface sf _

theorem RangesKept.closePen {s t : State} (h : RangesKept s t) (sf : Surface) : RangesKept s (closePen sf t) := by
  cases sf with
  | pad => exact h
  | screen => exact h.handPen _

theorem linkWord_rangesKept (sf : Surface) (f : State → SurfaceUnit → SurfaceUnit) (s : State) :
    RangesKept s (linkWord sf f s) := unlessHalted_keeps (.refl s) ((RangesKept.refl s).withSurface sf _)

theorem consumeClear_rangesKept (x : Time) (sf : Surface) (s : State) : RangesKept s (consumeClear x sf s) :=
  ite_keeps (((RangesKept.refl s).updateSurface sf _).endPadGestures sf _ x) (.refl s)

theorem closeAfterSleep_rangesKept (x : Time) (sf : Surface) (s : State) : RangesKept s (closeAfterSleep x sf s) :=
  ite_keeps (((RangesKept.refl s).updateSurface sf _).endPadGestures sf _ x) (.refl s)

theorem takeView_rangesKept (sf : Surface) (snap : Snapshot) (s : State) : RangesKept s (takeView sf snap s).2 :=
  .of_same (by simp) (by simp) (by simp) (by simp) (by simp)

theorem RangesKept.setWork {s t : State} (h : RangesKept s t) (sf : Surface) (snap : Snapshot) (v : FrameView)
    (w : FrameWork) : RangesKept s (setWork sf snap v w t) := h.updateSurface sf _

theorem RangesKept.startDiscard {s t : State} (h : RangesKept s t) (sf : Surface) (snap : Snapshot) (v : FrameView)
    (x : Time) : RangesKept s (startDiscard sf snap v x t) :=
  h.congr (by simp) (by simp) (by simp) (by simp) (by simp)

theorem RangesKept.startTrack {s t : State} (h : RangesKept s t) (sf : Surface) (snap : Snapshot) (v : FrameView)
    (x : Time) : RangesKept s (startTrack sf snap v x t) := (h.padFloor sf snap x).setWork sf snap v _

theorem RangesKept.startSettling {s t : State} (h : RangesKept s t) (sf : Surface) (snap : Snapshot) (v : FrameView)
    (x : Time) : RangesKept s (startSettling sf snap v x t) := by
  have inForce := h.updateSurface sf fun u => { u with bankInForce := snap.bank }
  refine ite_keeps (.startDiscard (inForce.updateSurface sf _) sf snap v x) (.startTrack ?_ sf snap v x)
  cases sf <;> exact inForce.congr rfl rfl rfl rfl rfl

theorem RangesKept.startDeactivation {s t : State} (h : RangesKept s t) (sf : Surface) (snap : Snapshot) (v : FrameView)
    (x : Time) : RangesKept s (startDeactivation sf snap v x t) := by
  have ended := (h.updateSurface sf endTable).endPadGestures sf .postureCancelled x
  have handed := ended.congr (handClosing_events sf snap v x _) (handClosing_penOut ..) (handClosing_command ..)
    (handClosing_gestures ..) (handClosing_fault ..)
  exact .setWork ((handed.updateSurface sf _).closePen sf) sf snap v _

theorem RangesKept.startBankChange {s t : State} (h : RangesKept s t) (sf : Surface) (snap : Snapshot) (v : FrameView)
    (x : Time) : RangesKept s (startBankChange sf snap v x t) :=
  .startTrack (((h.updateSurface sf endTable).endPadGestures sf .postureCancelled x).updateSurface sf _) sf snap v x

theorem RangesKept.outcomeRunning {s t : State} (h : RangesKept s t) (sf : Surface) (snap : Snapshot) (v : FrameView)
    (x : Time) : RangesKept s (outcomeRunning sf snap v x t) := by
  simp only [Machine.outcomeRunning]
  split
  case h_1 => exact ite_keeps (.startSettling (h.updateSurface sf _) sf snap v x) (h.startDiscard sf snap v x)
  case h_2 => exact ite_keeps (h.startSettling sf snap v x) (.startDiscard (h.updateSurface sf _) sf snap v x)
  case h_3 =>
    exact ite_keeps (h.startDeactivation sf snap v x)
      (ite_keeps (h.startTrack sf snap v x) (h.startBankChange sf snap v x))
  case h_4 => exact h.startDiscard sf snap v x

theorem RangesKept.outcomeDoze {s t : State} (h : RangesKept s t) (sf : Surface) (snap : Snapshot) (v : FrameView)
    (x : Time) : RangesKept s (outcomeDoze sf snap v x t) :=
  ite_keeps (h.congr (by simp) (by simp) (by simp) (by simp) (by simp)) (h.startDiscard sf snap v x)

theorem startFrame_rangesKept (sf : Surface) (x : Time) (s : State) : RangesKept s (startFrame sf x s) := by
  have ready := ((consumeClear_rangesKept x sf s).trans (takeView_rangesKept sf (takeSnapshot s sf) _)).trans
    (closeAfterSleep_rangesKept x sf _)
  exact ite_keeps (ready.outcomeDoze sf _ _ x) (ready.outcomeRunning sf _ _ x)

theorem trackFrame_rangesKept (sf : Surface) (st : FrameStart) (f : Frame) (s : State) :
    RangesKept s (trackFrame sf st f s) := by
  rw [trackFrame_eq]
  exact .updateSurface (.handFrame (.padGestures ((RangesKept.refl s).withSurface sf _) sf st f _ _) sf _) sf _

theorem countDropped_rangesKept (sf : Surface) (n : Nat) (s : State) : RangesKept s (countDropped sf n s) :=
  (RangesKept.refl s).updateSurface sf _

theorem watchFrame_rangesKept (sf : Surface) (st : FrameStart) (f : Frame) (s : State) :
    RangesKept s (watchFrame sf st f s) := by
  have counted := countDropped_rangesKept sf (extractOn sf (sectionOf sf st.snap.values) f.cells).2 s
  exact ite_keeps ((counted.updateSurface sf _).reportWake _ _ _) (counted.updateSurface sf _)

theorem processFrame_rangesKept (sf : Surface) (st : FrameStart) (f : Frame) (s : State) :
    RangesKept s (processFrame sf st f s) := by
  unfold processFrame
  split
  case h_1 => exact .refl s
  case h_2 => exact trackFrame_rangesKept sf st f s
  case h_3 => exact ite_keeps (watchFrame_rangesKept sf st f s) (countDropped_rangesKept sf _ s)
  case h_4 => exact countDropped_rangesKept sf _ s

theorem endFrame_rangesKept (sf : Surface) (st : FrameStart) (f : Frame) (s : State) :
    RangesKept s (endFrame sf st f s) := ((processFrame_rangesKept sf st f s).updateSurface sf _).drainEvents

/-! ### The command list -/

theorem loadBank_rangesKept (d : List (BitVec 64)) (f : InFlight) (s : State) : RangesKept s (loadBank d f s) := by
  have conclude (i : BankId) (g : Staging) (t : State) (h : RangesKept s t) : RangesKept s (concludeBank i g f t) := by
    have cleared : RangesKept s (withStaging none t) := h.congr rfl rfl rfl rfl rfl
    simp only [concludeBank]
    split
    · exact cleared.finish _ _ _ f
    · refine .finish ?_ _ _ _ f
      exact cleared.congr rfl rfl rfl rfl rfl
  have same : RangesKept s s := .refl s
  have entries (i : BankId) (g : Staging) (l : List (BitVec 64)) : RangesKept s (applyEntries i g l f s) := by
    simp only [applyEntries]
    refine ite_keeps (conclude i _ s same) (.readOn ?_ f)
    exact same.congr rfl rfl rfl rfl rfl
  simp only [loadBank]
  split
  · exact entries _ _ _
  · split
    · exact same.finish _ _ _ f
    · split
      · exact same
      · exact ite_keeps (same.finish _ _ _ f) (ite_keeps (same.finish _ _ _ f) (entries _ _ _))

theorem loadZones_rangesKept (d : List (BitVec 128)) (f : InFlight) (s : State) : RangesKept s (loadZones d f s) := by
  have same : RangesKept s s := .refl s
  simp only [loadZones, applyZones, concludeZones]
  refine ite_keeps (same.finish _ _ _ f) (ite_keeps (.finish ?_ _ _ _ f) (.readOn ?_ f))
  · exact same.congr (by simp [putZones]) (by simp [putZones]) (by simp [putZones]) (by simp [putZones]) (by simp [putZones])
  · exact same.congr rfl rfl rfl rfl rfl

theorem setPosture_rangesKept (f : InFlight) (s : State) : RangesKept s (setPosture f s) := by
  have moved : RangesKept s { s with posture := { s.posture with posture := postureOfCode (numAt f.record 4) } } :=
    .of_same rfl rfl rfl rfl rfl
  exact ite_keeps ((RangesKept.refl s).finishOk f) ((moved.handEvents _).finishOk f)

theorem setSurface_rangesKept (f : InFlight) (s : State) : RangesKept s (setSurface f s) := by
  refine .finishOk ?_ f
  split
  · exact .of_same rfl rfl rfl rfl rfl
  · exact ite_keeps (.of_same rfl rfl rfl rfl rfl) (.of_same rfl rfl rfl rfl rfl)

theorem clearTracking_rangesKept (f : InFlight) (s : State) : RangesKept s (clearTracking f s) :=
  .finishOk ((RangesKept.refl s).withSurface _ _) f

theorem sleep_rangesKept (f : InFlight) (s : State) : RangesKept s (sleep f s) := by
  have doze : RangesKept s (beginDoze s) := ite_keeps (.of_same rfl rfl rfl rfl rfl) (.of_same rfl rfl rfl rfl rfl)
  exact .finishOk (ite_keeps doze (.refl s)) f

theorem wake_rangesKept (f : InFlight) (s : State) : RangesKept s (wake f s) := by
  have run : RangesKept s (endDoze s) := by
    simp only [endDoze]
    split <;> exact .of_same rfl rfl rfl rfl rfl
  exact .finishOk (ite_keeps run (.refl s)) f

theorem takeSnapshotRecord_rangesKept (f : InFlight) (s : State) : RangesKept s (takeSnapshotRecord f s) :=
  ite_keeps ((RangesKept.refl s).finishOk _) ((RangesKept.refl s).finish _ _ _ f)

theorem complete_rangesKept (s : State) : RangesKept s (complete s) := by
  unfold complete
  split
  case h_1 f _ =>
    split
    · refine .releaseCommand ?_ f
      exact ((RangesKept.refl s).ackTaken f).congr rfl rfl rfl rfl rfl
    · exact .refl s
  case h_2 => exact .refl s

/-! ### Accesses and failures -/

theorem readFrameSlot_rangesKept (sf : Surface) (b : Byte) (s : State) : RangesKept s (readFrameSlot sf b s) := by
  simp only [readFrameSlot]
  (repeat' split) <;> exact .of_same (by simp) (by simp) (by simp) (by simp) (by simp)

theorem publishFrame_rangesKept (sf : Surface) (s : State) : RangesKept s (publishFrame sf s) := by
  simp only [publishFrame]
  split <;> exact .of_same (by simp) (by simp) (by simp) (by simp) (by simp)

theorem readPenSlot_rangesKept (b : Byte) (s : State) : RangesKept s (readPenSlot b s) := by
  unfold readPenSlot
  split
  · exact ite_keeps ⟨id, id, id, id, id, id⟩ (RangesKept.refl s).resumeSamples
  · exact .refl s

theorem publishSample_rangesKept (s : State) : RangesKept s (publishSample s) := by
  unfold publishSample
  split
  · refine .resumeSamples ?_
    exact ⟨id, id, fun _ => Nat.mod_lt _ (by decide), id, id, id⟩
  · exact .refl s

theorem readEventKind_rangesKept (k : Byte) (s : State) : RangesKept s (readEventKind k s) := by
  have same : RangesKept s s := .refl s
  simp only [readEventKind]
  split
  case h_1 fresh _ _ =>
    split
    · exact ite_keeps ⟨id, id, id, id, id, id⟩ (.resumeEvents (same.holdFresh fresh))
    · exact .resumeEvents same
  case h_2 => exact same

theorem publishEvent_rangesKept (s : State) : RangesKept s (publishEvent s) := by
  unfold publishEvent
  split
  case h_1 fresh loss cells _ =>
    have written : RangesKept s (setCause (putCells s cells) .event) := .of_same rfl rfl rfl rfl rfl
    exact written.trans (afterEventWritten_rangesKept fresh loss _)
  case h_2 => exact .refl s

theorem failAccess_rangesKept (acc : Access) (o : Nat) (s : State) : RangesKept s (failAccess acc o s) := by
  have same : RangesKept s s := .refl s
  have landed (cells : List Host.Cell) : RangesKept s (putCells s cells) := .of_same rfl rfl rfl rfl rfl
  cases acc with
  | frameSlotRead sf =>
    simp only [failAccess, failFrameRead]
    split
    · exact ite_keeps (.resumeFrames (same.failStream _ _ _) sf) same
    · exact same
  | frameSlotWrite sf =>
    simp only [failAccess, failFrameWrite]
    split
    · exact ite_keeps (.resumeFrames ((landed _).failStream _ _ _) sf) same
    · exact same
  | penSlotRead =>
    simp only [failAccess, failPenRead]
    split
    · exact ite_keeps (same.failStream _ _ _).resumeSamples same
    · exact same
  | penSlotWrite =>
    simp only [failAccess, failPenWrite]
    split
    · exact ite_keeps ((landed _).failStream _ _ _).resumeSamples same
    · exact same
  | eventKindRead =>
    simp only [failAccess, failEventRead]
    split
    · exact ite_keeps (.resumeEvents ((same.failStream _ _ _).holdFresh _)) same
    · exact same
  | eventWrite =>
    simp only [failAccess, failEventWrite]
    split
    · exact ite_keeps (.resumeEvents (((landed _).failStream _ _ _).holdFresh _)) same
    · exact same
  | recordRead =>
    simp only [failAccess, failRecordRead]
    split
    · exact ite_keeps (same.failStream _ _ _).endPass same
    · exact same
  | takenWrite =>
    simp only [failAccess, failTaken]
    split
    · refine ite_keeps (.endPass ((same.failStream _ _ _).withCommand ?_)) same
      exact id
    · exact same
  | dataRead =>
    simp only [failAccess, failDataRead]
    split
    · refine ite_keeps (.finish ?_ _ _ _ _) same
      exact (same.report _ _ _).congr rfl rfl rfl rfl rfl
    · exact same
  | snapshotWrite =>
    simp only [failAccess, failSnapshotWrite]
    split
    · refine ite_keeps (.finish ?_ _ _ _ _) same
      exact (same.report _ _ _).congr rfl rfl rfl rfl rfl
    · exact same
  | finalWrite =>
    simp only [failAccess, failFinalWrite]
    split
    case h_1 f _ =>
      split
      · refine ite_keeps (.releaseCommand (.report ?_ _ _ _) _) same
        exact (same.ackTaken f).congr rfl rfl rfl rfl rfl
      · exact same
    case h_2 => exact same

theorem nextRecordWrite_later (r : Registers) (again : Bool) (f : FaultUnit) :
    (nextRecordWrite r again f).later = f.later := by
  simp only [nextRecordWrite]
  split
  · exact startRecordWrite_later r _
  · rfl

theorem recordWritten_rangesKept (s : State) : RangesKept s (recordWritten s) := by
  simp only [recordWritten]
  split
  case h_1 w _ =>
    refine ite_keeps ⟨id, id, id, id, id, fun h => ?_⟩ ⟨id, id, id, id, id, fun h => ?_⟩ <;>
      exact (nextRecordWrite_later s.regs w.again _).symm ▸ h
  case h_2 => exact .refl s

/-! ### Every command -/

theorem takeRecord_rangesKept (r : PenRecord) (s : State) : RangesKept s (takeRecord r s) :=
  have taken := (RangesKept.refl s).handPen (takeSample (penBank s).pen s.screen.bankInForce r s.clock s.pen)
  ite_keeps (taken.reportWake _ _ _) taken

theorem nextState_rangesKept (c : Instr) (s : State) : RangesKept s (nextState c s) := by
  have same : RangesKept s s := .refl s
  have plain {t : State} (hevents : t.events = s.events) (hpenOut : t.penOut = s.penOut) (hcommand : t.command = s.command)
      (hgestures : t.gestures = s.gestures) (hfault : t.fault = s.fault) : RangesKept s t :=
    .of_same hevents hpenOut hcommand hgestures hfault
  cases c with
  | powerOnReset | resetLine =>
    exact ⟨fun _ => Nat.zero_le _, fun _ => Nat.succ_pos 31, fun _ => Nat.succ_pos 7, fun _ => Nat.succ_pos 15,
      fun _ => Nat.zero_le _, fun _ => Nat.zero_le _⟩
  | lingerExpiry | clockLoRead | keyactFallingEdge | clockTick => exact plain rfl rfl rfl rfl rfl
  | pendingTapExpiry => exact same.withGestures fun hc => (expireTap_counter ..).symm ▸ hc
  | dragLockExpiry => exact same.withGestures fun hc => (expireLock_counter ..).symm ▸ hc
  | startWord | cellWord | endWord => exact linkWord_rangesKept _ _ s
  | frameStart sf => exact beginFrame_keeps same fun _ x => startFrame_rangesKept sf x s
  | frameProcessingEnd sf => exact endProcessing_keeps same fun _ st f => endFrame_rangesKept sf st f s
  | penRecord r => exact takePenRecord_keeps same (fun _ => plain rfl rfl rfl rfl rfl) fun _ _ => takeRecord_rangesKept r s
  | penTimeoutExpiry => exact ite_keeps (same.handPen _) same
  | keyactRisingEdge => exact ite_keeps same (plain rfl rfl rfl rfl rfl)
  | typingGuardExpiry => exact ite_keeps (plain rfl rfl rfl rfl rfl) same
  | runSet => exact unlessHalted_keeps same (setRun_rangesKept s)
  | runClear => exact unlessHalted_keeps same (clearRun_rangesKept s)
  | stopEnd => exact ite_keeps (endStop_rangesKept s) same
  | notice => exact takeNotice_rangesKept s
  | attnMaskWrite => exact unlessHalted_keeps same (plain rfl rfl rfl rfl rfl)
  | statusCauseClear | faultClear => exact unlessHalted_keeps same (clearCauses_rangesKept _ s)
  | registerWrite offset v => exact unlessHalted_keeps same (writeRegister_rangesKept offset v s)
  | commandExamination r => exact examine_rangesKept r s
  | loadBank d => exact perform_keeps same fun f _ => loadBank_rangesKept d f s
  | loadZones d => exact perform_keeps same fun f _ => loadZones_rangesKept d f s
  | setPostureMap | setHand | setPublish =>
    refine perform_keeps same fun f _ => .finishOk ?_ f
    exact plain rfl rfl rfl rfl rfl
  | setPosture => exact perform_keeps same fun f _ => setPosture_rangesKept f s
  | setSurface => exact perform_keeps same fun f _ => setSurface_rangesKept f s
  | clearTracking => exact perform_keeps same fun f _ => clearTracking_rangesKept f s
  | sleep => exact perform_keeps same fun f _ => sleep_rangesKept f s
  | wake => exact perform_keeps same fun f _ => wake_rangesKept f s
  | snapshot => exact perform_keeps same fun f _ => takeSnapshotRecord_rangesKept f s
  | commandCompletion => exact complete_rangesKept s
  | frameSlotStateRead sf b => exact readFrameSlot_rangesKept sf b s
  | frameSlotPublished sf => exact publishFrame_rangesKept sf s
  | penSlotStateRead b => exact readPenSlot_rangesKept b s
  | penSlotPublished => exact publishSample_rangesKept s
  | eventKindRead k => exact readEventKind_rangesKept k s
  | eventPublished => exact publishEvent_rangesKept s
  | accessFailure acc o => exact failAccess_rangesKept acc _ s
  | readTimeout acc o => exact ite_keeps (failAccess_rangesKept acc _ s) same
  | faultRecorded => exact recordWritten_rangesKept s
  | faultRecordWriteFailure => exact ite_keeps (enterHalted_rangesKept s) same

/-- Settles O5: no command lets the queue past its limit. -/
theorem stepKeepsHoldingQueueBounded : Obligations.StepKeepsHoldingQueueBounded := fun _ _ =>
  step_keeps (P := QueueBounded) (fun _ _ h => h) fun c s => (nextState_rangesKept c s).queue

/-! ### The surfaces' positions (R178, R53, R191) -/

theorem nextId_range (i : Nat) : 1 ≤ nextId i ∧ nextId i ≤ 63 := by
  unfold nextId
  omega

/-- Creation leaves the id pointer in range (R53). -/
theorem createAll_pointer (sf : Surface) (p : SurfaceParams) (z : ZoneTable) (t : Time) (ids : List Nat) (bs : List Blob)
    (c : Creation) (h : 1 ≤ c.pointer ∧ c.pointer ≤ 63) :
    1 ≤ (bs.foldl (createOne sf p z t ids) c).pointer ∧ (bs.foldl (createOne sf p z t ids) c).pointer ≤ 63 := by
  induction bs generalizing c with
  | nil => exact h
  | cons b bs ih =>
    refine ih _ ?_
    unfold createOne
    split
    · exact h
    · exact nextId_range _

theorem trackedCreation_pointer (sf : Surface) (st : FrameStart) (f : Frame) (u : SurfaceUnit)
    (h : 1 ≤ u.idPointer ∧ u.idPointer ≤ 63) :
    1 ≤ (trackedCreation sf st f u).pointer ∧ (trackedCreation sf st f u).pointer ≤ 63 :=
  createAll_pointer sf _ _ _ _ _ _ h

theorem unitStep_inRange {sf : Surface} {u v : SurfaceUnit} (h : UnitStep sf u v) (hu : SurfaceInRange u) :
    SurfaceInRange v := by
  obtain ⟨hindex, hcount, hlow, hhigh, hrun⟩ := hu
  cases h with
  | beside h =>
    unfold SurfaceInRange
    rw [h.index, h.count, h.pointer, h.wakeRun]
    exact ⟨hindex, hcount, hlow, hhigh, hrun⟩
  | wakeRun _ _ hn => exact ⟨hindex, hcount, hlow, hhigh, hn⟩
  | endTable | emptyClosing | emptyTable | release => exact ⟨hindex, hcount, hlow, hhigh, hrun⟩
  | track st f =>
    obtain ⟨hlow', hhigh'⟩ := trackedCreation_pointer sf st f u ⟨hlow, hhigh⟩
    exact ⟨hindex, hcount, hlow', hhigh', hrun⟩
  | restart => exact ⟨Nat.succ_pos 3, hcount, hlow, hhigh, hrun⟩
  | publish => exact ⟨Nat.mod_lt _ (by decide), Nat.mod_lt _ (by decide), hlow, hhigh, hrun⟩

theorem nextState_positionsInRange (c : Instr) (s : State) (h : PositionsInRange s) : PositionsInRange (nextState c s) := by
  obtain ⟨hpad, hscreen, hpen, hevent, hscan, hcounter, hlater⟩ := h
  have unit (sf : Surface) := nextState_unit_keeps (P := SurfaceInRange) (sf := sf) reset_positionsInRange.1
    (fun _ _ => unitStep_inRange) (fun _ _ h => h) c s
  have kept := nextState_rangesKept c s
  exact ⟨unit .pad hpad, unit .screen hscreen, kept.penIndex hpen, kept.position hevent, kept.scan hscan,
    kept.counter hcounter, kept.later hlater⟩

/-- Settles O6: surface by surface, and by the ranges kept outside them. -/
theorem stepKeepsPositionsInRange : Obligations.StepKeepsPositionsInRange := fun _ _ =>
  step_keeps (fun _ _ h => h) nextState_positionsInRange

end Sys2Proof.Machine
end

section
/-! A part in OFF or HALTED (R198; the OFF and HALTED columns of the state tables). `Resting` names what such a
part has ended. A command that does the part's work finds nothing to do there and changes nothing; in RUNNING
and DOZE no command leads to OFF or HALTED but a reset, the end of a stop and a failed fault record write. -/

namespace Sys2Proof.Machine

/-! ### A resting part -/

/-- What AtRest says of a part in OFF or HALTED, item by item. -/
structure Resting (s : State) : Prop where
  stopping : s.regs.stopping = false
  pad : SurfaceAtRest s.pad
  screen : SurfaceAtRest s.screen
  pen : PenAtRest s.pen
  gestures : s.gestures = emptyGestures s.gestures.counter
  penPending : s.penOut.pending = none
  penHanded : s.penOut.handed = []
  penAccess : s.penOut.access = .none
  queue : s.events.queue = []
  eventsHanded : s.events.handed = []
  eventAccess : s.events.access = .none
  typing : s.inputs.typing = none
  pass : s.command.pass = none
  inFlight : s.command.inFlight = none
  rescan : s.command.rescan = false
  staging : s.posture.staging = none
  zoneStaging : s.posture.zoneStaging = none
  applied : s.regs.state = .off → s.suspension.applied = false
  wakeReported : s.wakeReported = false
  write : s.regs.state = .halted → s.fault.write = none

/-- The run states in which a part rests. -/
def IsRestState (r : RunState) : Prop := r = .off ∨ r = .halted

theorem atRest_iff (s : State) : AtRest s ↔ (IsRestState s.regs.state → Resting s) := by
  constructor
  · intro h hs
    obtain ⟨h1, h2, h3, h4, h5, h6, h7, h8, h9, h10, h11, h12, h13, h14, h15, h16, h17, h18, h19, h20⟩ := h hs
    exact ⟨h1, h2, h3, h4, h5, h6, h7, h8, h9, h10, h11, h12, h13, h14, h15, h16, h17, h18, h19, h20⟩
  · intro h hs
    obtain ⟨h1, h2, h3, h4, h5, h6, h7, h8, h9, h10, h11, h12, h13, h14, h15, h16, h17, h18, h19, h20⟩ := h hs
    exact ⟨h1, h2, h3, h4, h5, h6, h7, h8, h9, h10, h11, h12, h13, h14, h15, h16, h17, h18, h19, h20⟩

theorem isRunning_iff (s : State) : isRunning s = true ↔ s.regs.state = .running ∨ s.regs.state = .doze := by
  simp [isRunning]

theorem isRunning_eq_false_iff (s : State) : isRunning s = false ↔ IsRestState s.regs.state := by
  unfold isRunning IsRestState
  cases s.regs.state <;> decide

theorem Resting.surface {s : State} (h : Resting s) (sf : Surface) : SurfaceAtRest (surfaceOf s sf) := by
  cases sf with
  | pad => exact h.pad
  | screen => exact h.screen

theorem Resting.frameAccess {s : State} (h : Resting s) (sf : Surface) : (surfaceOf s sf).publisher.access = .none := by
  obtain ⟨-, -, -, -, -, -, -, -, -, -, haccess⟩ := h.surface sf
  exact haccess

/-! ### Work that finds nothing to do -/

theorem perform_of_absent {s : State} (h : s.command.inFlight = none) (kind : Nat) (body : InFlight → State → State) :
    perform kind body s = s := by
  simp only [perform, performing, h]

theorem Resting.tap {s : State} (h : Resting s) : s.gestures.tap = none := by
  rw [h.gestures]; rfl

theorem Resting.service {s : State} (h : Resting s) : s.gestures.service = none := by
  rw [h.gestures]; rfl

/-- An engine left as it is, with no event, is no change where nothing waits for the event strip. -/
theorem withGestures_same {s : State} (h : s.events.handed = []) : withGestures (s.gestures, []) s = s := by
  have hevents : runEvents s.regs.fenced.events s.clock (s.events.handed ++ []) s.events = s.events := by
    rw [h]
    exact congrArg (fun l => { s.events with handed := l }) h.symm
  exact congrArg (fun p => { s with events := p }) hevents

theorem failAccess_of_resting {s : State} (h : Resting s) (acc : Access) (o : Nat) : failAccess acc o s = s := by
  cases acc with
  | frameSlotRead sf => simp only [failAccess, failFrameRead, h.frameAccess sf]
  | frameSlotWrite sf => simp only [failAccess, failFrameWrite, h.frameAccess sf]
  | penSlotRead => simp only [failAccess, failPenRead, h.penAccess]
  | penSlotWrite => simp only [failAccess, failPenWrite, h.penAccess]
  | eventKindRead => simp only [failAccess, failEventRead, h.eventAccess]
  | eventWrite => simp only [failAccess, failEventWrite, h.eventAccess]
  | recordRead => simp only [failAccess, failRecordRead, h.pass]
  | takenWrite => simp only [failAccess, failTaken, h.inFlight]
  | dataRead => simp only [failAccess, failDataRead, h.inFlight]
  | snapshotWrite => simp only [failAccess, failSnapshotWrite, h.inFlight]
  | finalWrite => simp only [failAccess, failFinalWrite, h.inFlight]

/-- The commands that end or go on with work under way. -/
def isWork : Instr → Bool
  | .frameStart _ | .frameProcessingEnd _ | .penTimeoutExpiry | .lingerExpiry | .typingGuardExpiry
  | .pendingTapExpiry | .dragLockExpiry | .stopEnd | .notice | .commandExamination _ | .loadBank _ | .loadZones _
  | .setPostureMap | .setPosture | .setSurface | .setHand | .setPublish | .clearTracking | .sleep | .wake
  | .snapshot | .commandCompletion | .frameSlotStateRead _ _ | .frameSlotPublished _ | .penSlotStateRead _
  | .penSlotPublished | .eventKindRead _ | .eventPublished | .accessFailure _ _ | .readTimeout _ _ | .penRecord _ => true
  | _ => false

/-- A part at rest has no work to end or go on with (log 1). -/
theorem nextState_of_resting {s : State} (h : Resting s) (hstate : IsRestState s.regs.state) {c : Instr}
    (hc : isWork c = true) : nextState c s = s := by
  have hidle : isRunning s = false := (isRunning_eq_false_iff s).2 hstate
  have stays : ∀ b, ¬ (isRunning s && b) = true := by simp [hidle]
  obtain ⟨-, -, -, -, -, htimeout, hlinger⟩ := h.pen
  cases c with
  | frameStart | frameProcessingEnd => exact if_neg (by simp [hidle])
  | penRecord r => exact (ite_congr rfl (fun _ => if_neg (stays _)) fun _ => if_neg (stays _)).trans (ite_self s)
  | penTimeoutExpiry => exact if_neg (by simp [isDue, htimeout])
  | lingerExpiry => simp only [nextState, expireLinger, hlinger]
  | typingGuardExpiry => exact if_neg (by simp [isDue, h.typing])
  | pendingTapExpiry => simp only [nextState, expireTap, h.tap, withGestures_same h.eventsHanded]
  | dragLockExpiry => simp only [nextState, expireLock, h.service, withGestures_same h.eventsHanded]
  | stopEnd => exact if_neg (by simp [stopDone, hidle])
  | notice => exact if_pos (by simp [hidle])
  | commandExamination => simp only [nextState, examine, h.pass]
  | commandCompletion => simp only [nextState, complete, h.inFlight]
  | frameSlotStateRead sf => simp only [nextState, readFrameSlot, h.frameAccess sf]
  | frameSlotPublished sf => simp only [nextState, publishFrame, h.frameAccess sf]
  | penSlotStateRead => simp only [nextState, readPenSlot, h.penAccess]
  | penSlotPublished => simp only [nextState, publishSample, h.penAccess]
  | eventKindRead => simp only [nextState, readEventKind, h.eventAccess]
  | eventPublished => simp only [nextState, publishEvent, h.eventAccess]
  | accessFailure acc o => exact failAccess_of_resting h acc _
  | readTimeout acc o => simp only [nextState, failAccess_of_resting h, ite_self]
  | loadBank | loadZones | setPostureMap | setPosture | setSurface | setHand | setPublish | clearTracking | sleep
  | wake | snapshot => exact perform_of_absent h.inFlight _ _
  | _ => cases hc

/-! ### What goes on in OFF -/

/-- Whether a part rests does not hang on what a change of registers that keeps the run state, of the Fault
Unit's or of the image has left. -/
theorem Resting.congr {s t : State} (h : Resting s) (hstate : t.regs.state = s.regs.state)
    (hstopping : t.regs.stopping = s.regs.stopping) (hpad : t.pad = s.pad) (hscreen : t.screen = s.screen)
    (hpen : t.pen = s.pen) (hgestures : t.gestures = s.gestures) (hpenOut : t.penOut = s.penOut)
    (hevents : t.events = s.events) (htyping : t.inputs.typing = s.inputs.typing) (hcommand : t.command = s.command)
    (hposture : t.posture = s.posture) (hsuspension : t.suspension = s.suspension)
    (hwake : t.wakeReported = s.wakeReported) (hwrite : s.regs.state = .halted → t.fault.write = s.fault.write) :
    Resting t where
  stopping := hstopping ▸ h.stopping
  pad := hpad ▸ h.pad
  screen := hscreen ▸ h.screen
  pen := hpen ▸ h.pen
  gestures := hgestures ▸ h.gestures
  penPending := hpenOut ▸ h.penPending
  penHanded := hpenOut ▸ h.penHanded
  penAccess := hpenOut ▸ h.penAccess
  queue := hevents ▸ h.queue
  eventsHanded := hevents ▸ h.eventsHanded
  eventAccess := hevents ▸ h.eventAccess
  typing := htyping.trans h.typing
  pass := hcommand ▸ h.pass
  inFlight := hcommand ▸ h.inFlight
  rescan := hcommand ▸ h.rescan
  staging := hposture ▸ h.staging
  zoneStaging := hposture ▸ h.zoneStaging
  applied := fun hoff => hsuspension ▸ h.applied (hstate ▸ hoff)
  wakeReported := hwake.trans h.wakeReported
  write := fun hhalted => (hwrite (hstate ▸ hhalted)).trans (h.write (hstate ▸ hhalted))

/-- Two units agree in what a surface at rest has ended. -/
theorem SurfaceAtRest.of_link {u v : SurfaceUnit} (h : SurfaceAtRest u)
    (hv : v = { u with decoder := v.decoder, lastNumber := v.lastNumber, counters := v.counters }) : SurfaceAtRest v := by
  rw [hv]
  exact h

theorem endOn_of_off {s : State} (hoff : s.regs.state = .off) (sf : Surface) (u : SurfaceUnit) :
    endOn s sf u = { u with
      decoder := (endOn s sf u).decoder, lastNumber := (endOn s sf u).lastNumber
      counters := (endOn s sf u).counters } := by
  simp only [endOn, raiseOrphan_eq, raiseShort_eq]
  split
  · rfl
  · split
    · rw [acceptFrame, if_pos (.inl hoff)]
    · rfl
  · rfl

theorem startOn_link (s : State) (k : BitVec 8) (u : SurfaceUnit) :
    startOn s k u = { u with
      decoder := (startOn s k u).decoder, lastNumber := (startOn s k u).lastNumber
      counters := (startOn s k u).counters } := by
  rw [startOn_eq]

theorem cellOn_link (s : State) (sf : Surface) (v : BitVec 13) (u : SurfaceUnit) :
    cellOn s sf v u = { u with
      decoder := (cellOn s sf v u).decoder, lastNumber := (cellOn s sf v u).lastNumber
      counters := (cellOn s sf v u).counters } := by
  rw [cellOn_eq]
  cases u.decoder with
  | opened k cells => dsimp only; split <;> rfl
  | idle => rfl
  | skipping => rfl

theorem Resting.withSurface {s : State} (h : Resting s) (sf : Surface) {u : SurfaceUnit} (hu : SurfaceAtRest u) :
    Resting (withSurface s sf u) := by
  cases sf with
  | pad => exact { h with pad := hu }
  | screen => exact { h with screen := hu }

/-- The words on a link find the part resting and leave it so. -/
theorem linkWord_resting {s : State} (h : Resting s) (hstate : IsRestState s.regs.state) (sf : Surface)
    {f : State → SurfaceUnit → SurfaceUnit}
    (hf : s.regs.state = .off → ∀ u, f s u = { u with
      decoder := (f s u).decoder, lastNumber := (f s u).lastNumber, counters := (f s u).counters }) :
    Resting (linkWord sf f s) := by
  unfold linkWord unlessHalted
  split
  · exact h
  case isFalse hlive => exact h.withSurface sf ((h.surface sf).of_link (hf (hstate.resolve_right hlive) _))

/-! ### Entering OFF and HALTED -/

theorem resetTo_resting (level : Bool) (s : State) : Resting (resetTo level s) :=
  ⟨rfl, resetSurface_atRest, resetSurface_atRest, resetPen_atRest, rfl, rfl, rfl, rfl, rfl, rfl, rfl, rfl, rfl, rfl, rfl,
    rfl, rfl, fun _ => rfl, rfl, fun _ => rfl⟩

theorem resetByLine_resting (level : Bool) (s : State) : Resting (resetByLine level s) :=
  (resetTo_resting level s).congr rfl rfl rfl rfl rfl rfl rfl rfl rfl rfl rfl rfl rfl fun _ => rfl

theorem emptySurface_atRest (u : SurfaceUnit) : SurfaceAtRest (emptySurface u) :=
  ⟨rfl, rfl, rfl, rfl, rfl, rfl, rfl, rfl, rfl, rfl, rfl⟩

theorem closeChannel_atRest (t : Time) (c : PenChannel) : PenAtRest (closeChannel t c).channel :=
  ⟨rfl, rfl, rfl, rfl, rfl, rfl, rfl⟩

theorem stopped_resting {s : State} (h : s.command.inFlight = none) : Resting (stopped s) :=
  ⟨rfl, emptySurface_atRest s.pad, emptySurface_atRest s.screen, closeChannel_atRest s.clock s.pen, rfl, rfl, rfl, rfl,
    rfl, rfl, rfl, rfl, rfl, h, rfl, rfl, rfl, fun _ => rfl, rfl, fun hhalted => nomatch hhalted⟩

theorem enterHalted_resting (s : State) : Resting (enterHalted s) :=
  ⟨rfl, emptySurface_atRest s.pad, emptySurface_atRest s.screen, closeChannel_atRest s.clock s.pen, rfl, rfl, rfl, rfl,
    rfl, rfl, rfl, rfl, rfl, rfl, rfl, rfl, rfl, (fun hoff => nomatch hoff), rfl, fun _ => rfl⟩

theorem inFlight_of_stopDone {s : State} (h : stopDone s = true) : s.command.inFlight = none := by
  simp only [stopDone, Bool.and_eq_true, Option.isNone_iff_eq_none] at h
  obtain ⟨⟨⟨-, h⟩, -⟩, -⟩ := h
  exact h

/-- A start leaves RUNNING, or OFF with what there was. -/
theorem tryStart_atRest {s : State} (h : Resting s) : AtRest (tryStart s) := by
  rw [atRest_iff]
  unfold tryStart
  split
  · intro hstate
    rcases hstate with hstate | hstate <;> cases hstate
  · exact fun _ => h.congr rfl rfl rfl rfl rfl rfl rfl rfl rfl rfl rfl rfl rfl fun _ => rfl

theorem endStop_atRest {s : State} (h : stopDone s = true) : AtRest (endStop s) := by
  have hstopped := stopped_resting (inFlight_of_stopDone h)
  exact ite_keeps (tryStart_atRest hstopped) ((atRest_iff _).2 fun _ => hstopped)

/-! ### Run control and registers of a resting part -/

theorem setRun_atRest {s : State} (h : Resting s) : AtRest (setRun s) := by
  refine ite_keeps ((atRest_iff _).2 fun _ => h) (ite_keeps (tryStart_atRest ?_) ((atRest_iff _).2 fun _ => ?_)) <;>
    exact h.congr rfl rfl rfl rfl rfl rfl rfl rfl rfl rfl rfl rfl rfl fun _ => rfl

/-- RUN cleared outside RUNNING and DOZE begins no stop. -/
theorem clearRun_resting {s : State} (h : Resting s) (hstate : IsRestState s.regs.state) : Resting (clearRun s) := by
  have hidle : ¬ (isRunning s && !s.regs.stopping) = true := by simp [(isRunning_eq_false_iff s).2 hstate]
  unfold clearRun
  rw [if_neg hidle]
  exact ite_keeps (h.congr rfl rfl rfl rfl rfl rfl rfl rfl rfl rfl rfl rfl rfl fun _ => rfl) h

theorem takeRescan_of_clear {s : State} (h : s.command.rescan = false) : takeRescan s = s := if_neg (by simp [h])

theorem clearCauses_resting {s : State} (h : Resting s) (hoff : s.regs.state = .off) (ones : BitVec 7) :
    Resting (clearCauses ones s) := by
  have live {p : Prop} (hhalted : s.regs.state = .halted) : p := by rw [hoff] at hhalted; cases hhalted
  have rearmed : Resting { s with
      regs := { s.regs with causes := s.regs.causes &&& ~~~ones, fenced := noFences }, fault := rearm s.fault } :=
    h.congr rfl rfl rfl rfl rfl rfl rfl rfl rfl rfl rfl rfl rfl live
  refine ite_keeps (ite_keeps ?_ rearmed) (h.congr rfl rfl rfl rfl rfl rfl rfl rfl rfl rfl rfl rfl rfl fun _ => rfl)
  exact (takeRescan_of_clear rearmed.rescan).symm ▸ rearmed

theorem writeControl_atRest {s : State} (h : Resting s) (hstate : IsRestState s.regs.state) (v : BitVec 32) :
    AtRest (writeControl v s) := by
  have run : AtRest (if v.getLsbD 0 then setRun s else clearRun s) :=
    ite_keeps (setRun_atRest h) ((atRest_iff _).2 fun _ => clearRun_resting h hstate)
  have masked : AtRest (writeMask (v.extractLsb' 8 7) (if v.getLsbD 0 then setRun s else clearRun s)) := by
    rw [atRest_iff] at run ⊢
    exact fun hs => (run hs).congr rfl rfl rfl rfl rfl rfl rfl rfl rfl rfl rfl rfl rfl fun _ => rfl
  refine ite_keeps ?_ masked
  rw [atRest_iff]
  intro hs
  rw [takeNotice_regs] at hs
  have hresting := (atRest_iff _).1 masked hs
  rw [show takeNotice _ = _ from nextState_of_resting hresting hs (c := .notice) rfl]
  exact hresting

theorem writeRegister_atRest {s : State} (h : Resting s) (hoff : s.regs.state = .off) (offset : BitVec 8)
    (v : BitVec 32) : AtRest (writeRegister offset v s) := by
  have rest {t : State} (ht : Resting t) : AtRest t := (atRest_iff t).2 fun _ => ht
  unfold writeRegister
  split
  case h_1 => exact writeControl_atRest h (.inl hoff) v
  case h_2 => exact rest (clearCauses_resting h hoff _)
  case h_3 =>
    exact ite_keeps (rest (h.congr rfl rfl rfl rfl rfl rfl rfl rfl rfl rfl rfl rfl rfl fun _ => rfl)) (rest h)
  case h_4 =>
    exact ite_keeps (rest (h.congr rfl rfl rfl rfl rfl rfl rfl rfl rfl rfl rfl rfl rfl fun _ => rfl)) (rest h)
  case h_5 => exact rest h

theorem recordWritten_resting {s : State} (h : Resting s) (hstate : IsRestState s.regs.state) :
    Resting (recordWritten s) := by
  rcases hstate with hoff | hhalted
  · have live {p : Prop} (hhalted : s.regs.state = .halted) : p := by rw [hoff] at hhalted; cases hhalted
    simp only [recordWritten]
    (repeat' split) <;> exact h.congr rfl rfl rfl rfl rfl rfl rfl rfl rfl rfl rfl rfl rfl live
  · simp only [recordWritten, h.write hhalted]
    exact h

theorem unlessHalted_atRest {s : State} {f : State → State} (h : Resting s) (hstate : IsRestState s.regs.state)
    (hf : s.regs.state = .off → AtRest (f s)) : AtRest (unlessHalted f s) := by
  unfold unlessHalted
  split
  · exact (atRest_iff s).2 fun _ => h
  case isFalse hlive => exact hf (hstate.resolve_right hlive)

/-- A command taken by a resting part leaves it at rest, or starts it. -/
theorem nextState_atRest_of_resting {s : State} (h : Resting s) (hstate : IsRestState s.regs.state) (c : Instr) :
    AtRest (nextState c s) := by
  have rest {t : State} (ht : Resting t) : AtRest t := (atRest_iff t).2 fun _ => ht
  have work (hc : isWork c = true) : AtRest (nextState c s) := (nextState_of_resting h hstate hc).symm ▸ rest h
  cases c with
  | powerOnReset level => exact rest (resetTo_resting level s)
  | resetLine level => exact rest (resetByLine_resting level s)
  | startWord sf k => exact rest (linkWord_resting h hstate sf fun _ u => startOn_link s k u)
  | cellWord sf v => exact rest (linkWord_resting h hstate sf fun _ u => cellOn_link s sf v u)
  | endWord sf => exact rest (linkWord_resting h hstate sf fun hoff u => endOn_of_off hoff sf u)
  | keyactRisingEdge =>
    refine rest (ite_keeps h ?_)
    rw [if_neg (by simp [(isRunning_eq_false_iff s).2 hstate])]
    exact h.congr rfl rfl rfl rfl rfl rfl rfl rfl rfl rfl rfl rfl rfl fun _ => rfl
  | runSet => exact unlessHalted_atRest h hstate fun _ => setRun_atRest h
  | runClear => exact unlessHalted_atRest h hstate fun _ => rest (clearRun_resting h hstate)
  | attnMaskWrite =>
    exact unlessHalted_atRest h hstate fun _ =>
      rest (h.congr rfl rfl rfl rfl rfl rfl rfl rfl rfl rfl rfl rfl rfl fun _ => rfl)
  | statusCauseClear v => exact unlessHalted_atRest h hstate fun hoff => rest (clearCauses_resting h hoff _)
  | faultClear => exact unlessHalted_atRest h hstate fun hoff => rest (clearCauses_resting h hoff _)
  | registerWrite offset v => exact unlessHalted_atRest h hstate fun hoff => writeRegister_atRest h hoff offset v
  | clockLoRead | clockTick | keyactFallingEdge =>
    exact rest (h.congr rfl rfl rfl rfl rfl rfl rfl rfl rfl rfl rfl rfl rfl fun _ => rfl)
  | faultRecorded => exact rest (recordWritten_resting h hstate)
  | faultRecordWriteFailure => exact ite_keeps (rest (enterHalted_resting s)) (rest h)
  | _ => exact work rfl

/-! ### The run state of a running part -/

@[simp] theorem reportWake_runState (k n : Nat) (t : Time) (s : State) :
    (reportWake k n t s).regs.state = s.regs.state := by
  unfold reportWake
  split <;> rfl

@[simp] theorem watchFrame_runState (sf : Surface) (st : FrameStart) (f : Frame) (s : State) :
    (watchFrame sf st f s).regs.state = s.regs.state :=
  ite_keeps (P := fun t => t.regs.state = s.regs.state) (by simp) (by simp)

@[simp] theorem linkWord_regs (sf : Surface) (f : State → SurfaceUnit → SurfaceUnit) (s : State) :
    (linkWord sf f s).regs = s.regs :=
  unlessHalted_keeps (P := fun t => t.regs = s.regs) rfl (withSurface_regs ..)

@[simp] theorem processFrame_runState (sf : Surface) (st : FrameStart) (f : Frame) (s : State) :
    (processFrame sf st f s).regs.state = s.regs.state := by
  unfold processFrame
  (repeat' split) <;> simp

@[simp] theorem failStream_runState (s : State) (t : Stream) (w : Bool) (o : Nat) :
    (failStream s t w o).regs.state = s.regs.state := rfl

@[simp] theorem releaseCommand_runState (f : InFlight) (s : State) :
    (releaseCommand f s).regs.state = s.regs.state := by
  simp only [releaseCommand]
  split <;> simp

@[simp] theorem complete_runState (s : State) : (complete s).regs.state = s.regs.state := by
  unfold complete
  (repeat' split) <;> simp

@[simp] theorem clearCauses_runState (ones : BitVec 7) (s : State) :
    (clearCauses ones s).regs.state = s.regs.state := by
  simp only [clearCauses, reopen]
  (repeat' split) <;> simp

@[simp] theorem failAccess_runState (acc : Access) (o : Nat) (s : State) :
    (failAccess acc o s).regs.state = s.regs.state := by
  cases acc with
  | penSlotRead | penSlotWrite | eventKindRead | eventWrite =>
    simp only [failAccess, failPenRead, failPenWrite, failEventRead, failEventWrite]
    (repeat' split) <;> rfl
  | frameSlotRead | frameSlotWrite | recordRead | takenWrite | dataRead | snapshotWrite | finalWrite =>
    simp only [failAccess, failFrameRead, failFrameWrite, failRecordRead, failTaken, failDataRead, failSnapshotWrite,
      failFinalWrite]
    (repeat' split) <;> simp

@[simp] theorem recordWritten_runState (s : State) : (recordWritten s).regs.state = s.regs.state := by
  simp only [recordWritten]
  (repeat' split) <;> rfl

@[simp] theorem publishFrame_runState (sf : Surface) (s : State) : (publishFrame sf s).regs.state = s.regs.state := by
  simp only [publishFrame]
  split <;> simp

@[simp] theorem publishSample_runState (s : State) : (publishSample s).regs.state = s.regs.state := by
  unfold publishSample
  split <;> rfl

@[simp] theorem publishEvent_runState (s : State) : (publishEvent s).regs.state = s.regs.state := by
  unfold publishEvent
  split <;> simp

@[simp] theorem readFrameSlot_regs (sf : Surface) (b : Byte) (s : State) : (readFrameSlot sf b s).regs = s.regs := by
  simp only [readFrameSlot]
  (repeat' split) <;> simp

@[simp] theorem readPenSlot_regs (b : Byte) (s : State) : (readPenSlot b s).regs = s.regs := by
  unfold readPenSlot
  (repeat' split) <;> rfl

@[simp] theorem readEventKind_regs (k : Byte) (s : State) : (readEventKind k s).regs = s.regs := by
  simp only [readEventKind]
  (repeat' split) <;> rfl

@[simp] theorem setPosture_regs (f : InFlight) (s : State) : (setPosture f s).regs = s.regs := by
  simp only [setPosture]
  split <;> simp

@[simp] theorem setSurface_regs (f : InFlight) (s : State) : (setSurface f s).regs = s.regs := by
  simp only [setSurface]
  (repeat' split) <;> simp

@[simp] theorem clearTracking_regs (f : InFlight) (s : State) : (clearTracking f s).regs = s.regs := by
  simp [clearTracking]

@[simp] theorem takeSnapshotRecord_regs (f : InFlight) (s : State) : (takeSnapshotRecord f s).regs = s.regs := by
  simp only [takeSnapshotRecord]
  split <;> simp

theorem beginDoze_runState (s : State) : (beginDoze s).regs.state = .doze := by
  simp only [beginDoze]
  split <;> rfl

theorem endDoze_runState (s : State) : (endDoze s).regs.state = .running := rfl

theorem setRun_runState {s : State} (h : s.regs.state ≠ .off) : (setRun s).regs.state = s.regs.state := by
  unfold setRun
  rw [if_neg h]
  split <;> rfl

@[simp] theorem clearRun_runState (s : State) : (clearRun s).regs.state = s.regs.state := by
  unfold clearRun
  (repeat' split) <;> rfl

theorem writeControl_runState {s : State} (h : s.regs.state ≠ .off) (v : BitVec 32) :
    (writeControl v s).regs.state = s.regs.state := by
  have run : (if v.getLsbD 0 then setRun s else clearRun s).regs.state = s.regs.state := by
    split
    · exact setRun_runState h
    · exact clearRun_runState s
  simp only [writeControl]
  split
  · rw [takeNotice_regs]; exact run
  · exact run

theorem writeRegister_runState {s : State} (h : s.regs.state ≠ .off) (offset : BitVec 8) (v : BitVec 32) :
    (writeRegister offset v s).regs.state = s.regs.state := by
  unfold writeRegister
  split
  case h_1 => exact writeControl_runState h v
  case h_2 => exact clearCauses_runState _ s
  case h_3 => rw [if_neg h]
  case h_4 => rw [if_neg h]
  case h_5 => rfl

theorem takeRecord_runState (r : PenRecord) (s : State) : (takeRecord r s).regs.state = s.regs.state := by
  simp only [takeRecord]
  split <;> simp

/-- The commands that may lead to OFF or HALTED. -/
def endsRun : Instr → Bool
  | .powerOnReset _ | .resetLine _ | .stopEnd | .faultRecordWriteFailure => true
  | _ => false

/-- A part in RUNNING or DOZE. -/
def IsLive (s : State) : Prop := isRunning s = true

/-- Every other command leaves a part in RUNNING or DOZE in one of the two. -/
theorem nextState_isLive {s : State} (h : IsLive s) {c : Instr} (hc : endsRun c = false) : IsLive (nextState c s) := by
  have same {t : State} (ht : t.regs.state = s.regs.state) : IsLive t := by
    unfold IsLive at h ⊢
    rw [isRunning_iff] at h ⊢
    rwa [ht]
  have live : s.regs.state ≠ .off := by
    intro hoff
    rw [IsLive, isRunning_iff, hoff] at h
    rcases h with h | h <;> cases h
  have kept {t : State} (ht : t.regs = s.regs) : IsLive t := same (congrArg Registers.state ht)
  cases c with
  | powerOnReset | resetLine | stopEnd | faultRecordWriteFailure => cases hc
  | startWord | cellWord | endWord => exact kept (linkWord_regs ..)
  | frameStart sf => exact beginFrame_keeps h fun _ t => kept (startFrame_regs sf t s)
  | frameProcessingEnd sf => exact endProcessing_keeps h fun _ st f => same (by simp [endFrame])
  | penRecord r => exact takePenRecord_keeps h (fun _ => kept rfl) fun _ _ => same (takeRecord_runState r s)
  | penTimeoutExpiry => exact ite_keeps (kept (handPen_regs ..)) h
  | lingerExpiry | pendingTapExpiry | dragLockExpiry | clockLoRead | clockTick | keyactFallingEdge => exact kept rfl
  | keyactRisingEdge => exact ite_keeps h (kept rfl)
  | typingGuardExpiry => exact ite_keeps (kept rfl) h
  | runSet => exact unlessHalted_keeps h (same (setRun_runState live))
  | runClear => exact unlessHalted_keeps h (same (clearRun_runState s))
  | notice => exact kept (takeNotice_regs s)
  | attnMaskWrite => exact unlessHalted_keeps h (same rfl)
  | statusCauseClear | faultClear => exact unlessHalted_keeps h (same (clearCauses_runState _ s))
  | registerWrite offset v => exact unlessHalted_keeps h (same (writeRegister_runState live offset v))
  | commandExamination r => exact kept (examine_regs r s)
  | loadBank d => exact perform_keeps h fun f _ => kept (loadBank_regs d f s)
  | loadZones d => exact perform_keeps h fun f _ => kept (loadZones_regs d f s)
  | setPostureMap | setHand | setPublish => exact perform_keeps h fun f _ => kept (finishOk_regs f _)
  | setPosture => exact perform_keeps h fun f _ => kept (setPosture_regs f s)
  | setSurface => exact perform_keeps h fun f _ => kept (setSurface_regs f s)
  | clearTracking => exact perform_keeps h fun f _ => kept (clearTracking_regs f s)
  | sleep =>
    refine perform_keeps h fun f _ => ?_
    rw [IsLive, isRunning_iff, sleep, finishOk_regs]
    split
    · exact .inr (beginDoze_runState s)
    · exact (isRunning_iff s).1 h
  | wake =>
    refine perform_keeps h fun f _ => ?_
    rw [IsLive, isRunning_iff, wake, finishOk_regs]
    split
    · exact .inl (endDoze_runState s)
    · exact (isRunning_iff s).1 h
  | snapshot => exact perform_keeps h fun f _ => kept (takeSnapshotRecord_regs f s)
  | commandCompletion => exact same (complete_runState s)
  | frameSlotStateRead sf b => exact kept (readFrameSlot_regs sf b s)
  | frameSlotPublished sf => exact same (publishFrame_runState sf s)
  | penSlotStateRead b => exact kept (readPenSlot_regs b s)
  | penSlotPublished => exact same (publishSample_runState s)
  | eventKindRead k => exact kept (readEventKind_regs k s)
  | eventPublished => exact same (publishEvent_runState s)
  | accessFailure acc o => exact same (failAccess_runState acc _ s)
  | readTimeout acc o => exact ite_keeps (same (failAccess_runState acc _ s)) h
  | faultRecorded => exact same (recordWritten_runState s)

theorem atRest_of_isRunning {s : State} (h : isRunning s = true) : AtRest s := by
  rw [atRest_iff, ← isRunning_eq_false_iff, h]
  exact fun hfalse => by cases hfalse

theorem nextState_atRest (c : Instr) (s : State) (h : AtRest s) : AtRest (nextState c s) := by
  cases hrun : isRunning s with
  | false =>
    have hstate := (isRunning_eq_false_iff s).1 hrun
    exact nextState_atRest_of_resting ((atRest_iff s).1 h hstate) hstate c
  | true =>
    have rest {t : State} (ht : Resting t) : AtRest t := (atRest_iff t).2 fun _ => ht
    cases c with
    | powerOnReset level => exact rest (resetTo_resting level s)
    | resetLine level => exact rest (resetByLine_resting level s)
    | stopEnd =>
      simp only [nextState]
      split
      case isTrue hdone => exact endStop_atRest hdone
      case isFalse => exact h
    | faultRecordWriteFailure => exact ite_keeps (rest (enterHalted_resting s)) h
    | _ => exact atRest_of_isRunning (nextState_isLive hrun rfl)

/-- Settles O9: a resting part is left resting or started, a running one is left running or comes to rest. -/
theorem stepKeepsOffAndHaltedAtRest : Obligations.StepKeepsOffAndHaltedAtRest := fun _ _ =>
  step_keeps (P := AtRest) (fun _ _ h => h) nextState_atRest

/-! ### HALTED (R198) -/

theorem err_eq_true_iff (s : State) : err s = true ↔ s.regs.state = .halted := by simp [err]

theorem attn_of_quiet {s : State} (h : s.regs.state = .off) (hcauses : s.regs.causes = 0) : attn s = false := by
  simp [attn, h, hcauses]

theorem attn_of_halted {s : State} (h : s.regs.state = .halted) : attn s = true := by simp [attn, h]

/-- In HALTED every command but the resets leaves the run state and the image. -/
theorem nextState_of_halted {s : State} (h : Resting s) (hhalted : s.regs.state = .halted) {c : Instr}
    (hpower : ∀ level, c ≠ .powerOnReset level) (hline : ∀ level, c ≠ .resetLine level) :
    (nextState c s).regs.state = .halted ∧ (nextState c s).area = s.area := by
  have ignored (f : State → State) : unlessHalted f s = s := if_pos hhalted
  have same {t : State} (ht : t = s) : t.regs.state = .halted ∧ t.area = s.area := ht.symm ▸ ⟨hhalted, rfl⟩
  cases c with
  | powerOnReset level => exact absurd rfl (hpower level)
  | resetLine level => exact absurd rfl (hline level)
  | startWord | cellWord | endWord => exact same (if_pos hhalted)
  | runSet | runClear | attnMaskWrite | statusCauseClear | faultClear
  | registerWrite => exact same (ignored _)
  | keyactRisingEdge =>
    exact ite_keeps (P := fun t => t.regs.state = .halted ∧ t.area = s.area) ⟨hhalted, rfl⟩ ⟨hhalted, rfl⟩
  | clockLoRead | clockTick | keyactFallingEdge => exact ⟨hhalted, rfl⟩
  | faultRecorded => exact same (by simp only [nextState, recordWritten, h.write hhalted])
  | faultRecordWriteFailure => exact same (if_neg (by simp [h.write hhalted]))
  | _ => exact same (nextState_of_resting h (.inr hhalted) rfl)

/-- Settles O11: the resets lead to OFF, and every other command finds the part resting in HALTED. -/
theorem haltedLeftOnlyByReset : Obligations.HaltedLeftOnlyByReset := by
  intro c s t hhalted hrest h
  have hresting := (atRest_iff s).1 hrest (.inr hhalted)
  rw [exec_next_iff] at h
  subst h
  have stays (hpower : ∀ level, c ≠ .powerOnReset level) (hline : ∀ level, c ≠ .resetLine level) :
      (nextState c s).regs.state = .halted ∧ (nextState c s).area = s.area ∧ err (nextState c s) = true ∧
        attn (nextState c s) = true := by
    obtain ⟨hstate, harea⟩ := nextState_of_halted hresting hhalted hpower hline
    exact ⟨hstate, harea, (err_eq_true_iff _).2 hstate, attn_of_halted hstate⟩
  cases c with
  | powerOnReset | resetLine => exact ⟨rfl, rfl, attn_of_quiet rfl rfl⟩
  | _ => exact stays (fun _ hc => by cases hc) (fun _ hc => by cases hc)

end Sys2Proof.Machine
end

section
/-! What commands leave alone: the settings (R142, R145, R149, R155, R157), the causes (R162) and, for the words,
frames and slot accesses of one surface, the other surface (chapter 1). -/

namespace Sys2Proof.Machine

/-! ### Settings -/

/-- From `s` to `t` neither bank, nor the posture, the map or the hand has changed. -/
structure SettingsKept (s t : State) : Prop where
  bankA : t.posture.bankA = s.posture.bankA
  bankB : t.posture.bankB = s.posture.bankB
  posture : t.posture.posture = s.posture.posture
  map : t.posture.map = s.posture.map
  hand : t.posture.hand = s.posture.hand

theorem SettingsKept.of_posture {s t : State} (h : t.posture = s.posture) : SettingsKept s t :=
  ⟨congrArg _ h, congrArg _ h, congrArg _ h, congrArg _ h, congrArg _ h⟩

/-- A zone load stages records, and sets no setting but the zone table. -/
theorem loadZones_settingsKept (d : List (BitVec 128)) (f : InFlight) (s : State) : SettingsKept s (loadZones d f s) := by
  simp only [loadZones, applyZones, concludeZones]
  (repeat' split) <;> constructor <;> simp [withZoneStaging]

/-- The commands that change a setting. -/
def setsSettings : Instr → Bool
  | .powerOnReset _ | .resetLine _ | .loadBank _ | .setPublish | .setPosture | .setPostureMap | .setHand => true
  | _ => false

@[simp] theorem writeControl_posture (v : BitVec 32) (s : State) : (writeControl v s).posture = s.posture := by
  have run : (if v.getLsbD 0 then setRun s else clearRun s).posture = s.posture := by split <;> simp
  simp only [writeControl]
  split
  · rw [takeNotice_posture]; exact run
  · exact run

@[simp] theorem writeRegister_posture (offset : BitVec 8) (v : BitVec 32) (s : State) :
    (writeRegister offset v s).posture = s.posture := by
  unfold writeRegister
  (repeat' split) <;> simp

theorem failAccess_settingsKept (acc : Access) (o : Nat) (s : State) : SettingsKept s (failAccess acc o s) := by
  cases acc with
  | penSlotRead | penSlotWrite | eventKindRead | eventWrite =>
    simp only [failAccess, failPenRead, failPenWrite, failEventRead, failEventWrite]
    (repeat' split) <;> exact .of_posture rfl
  | frameSlotRead | frameSlotWrite | recordRead | takenWrite | dataRead | snapshotWrite | finalWrite =>
    simp only [failAccess, failFrameRead, failFrameWrite, failRecordRead, failTaken, failDataRead, failSnapshotWrite,
      failFinalWrite]
    (repeat' split) <;> constructor <;> simp [withStaging, withZoneStaging]

@[simp] theorem setSurface_posture (f : InFlight) (s : State) : (setSurface f s).posture = s.posture := by
  simp only [setSurface]
  (repeat' split) <;> simp

@[simp] theorem takeSnapshotRecord_posture (f : InFlight) (s : State) : (takeSnapshotRecord f s).posture = s.posture := by
  simp only [takeSnapshotRecord]
  split <;> simp

@[simp] theorem readFrameSlot_posture (sf : Surface) (b : Byte) (s : State) :
    (readFrameSlot sf b s).posture = s.posture := by
  simp only [readFrameSlot]
  (repeat' split) <;> simp

@[simp] theorem publishFrame_posture (sf : Surface) (s : State) : (publishFrame sf s).posture = s.posture := by
  simp only [publishFrame]
  split <;> simp

@[simp] theorem readPenSlot_posture (b : Byte) (s : State) : (readPenSlot b s).posture = s.posture := by
  unfold readPenSlot
  (repeat' split) <;> rfl

@[simp] theorem publishSample_posture (s : State) : (publishSample s).posture = s.posture := by
  unfold publishSample
  split <;> rfl

@[simp] theorem readEventKind_posture (k : Byte) (s : State) : (readEventKind k s).posture = s.posture := by
  simp only [readEventKind]
  (repeat' split) <;> rfl

@[simp] theorem publishEvent_posture (s : State) : (publishEvent s).posture = s.posture := by
  unfold publishEvent
  split <;> simp

@[simp] theorem recordWritten_posture (s : State) : (recordWritten s).posture = s.posture := by
  simp only [recordWritten]
  (repeat' split) <;> rfl

@[simp] theorem takeRecord_posture (r : PenRecord) (s : State) : (takeRecord r s).posture = s.posture := by
  simp only [takeRecord]
  split <;> simp

@[simp] theorem beginDoze_posture (s : State) : (beginDoze s).posture = s.posture := by
  simp only [beginDoze]
  split <;> rfl

@[simp] theorem endDoze_posture (s : State) : (endDoze s).posture = s.posture := by
  simp only [endDoze]
  split <;> rfl

@[simp] theorem sleep_posture (f : InFlight) (s : State) : (sleep f s).posture = s.posture := by
  simp only [sleep, finishOk_posture]
  split <;> simp

@[simp] theorem wake_posture (f : InFlight) (s : State) : (wake f s).posture = s.posture := by
  simp only [wake, finishOk_posture]
  split <;> simp

@[simp] theorem linkWord_posture (sf : Surface) (f : State → SurfaceUnit → SurfaceUnit) (s : State) :
    (linkWord sf f s).posture = s.posture :=
  unlessHalted_keeps (P := fun t => t.posture = s.posture) rfl (withSurface_posture ..)

/-- A stop that ends drops the staging copies and, if RUN is set again, starts the part. -/
theorem endStop_settingsKept (s : State) : SettingsKept s (endStop s) := by
  have hstopped : SettingsKept s (stopped s) := ⟨rfl, rfl, rfl, rfl, rfl⟩
  unfold endStop
  refine ite_keeps (P := SettingsKept s) ?_ hstopped
  constructor <;> rw [tryStart_posture] <;> rfl

theorem nextState_settingsKept {c : Instr} (hc : setsSettings c = false) (s : State) : SettingsKept s (nextState c s) := by
  have kept {t : State} (h : t.posture = s.posture) : SettingsKept s t := .of_posture h
  have same : SettingsKept s s := kept rfl
  cases c with
  | powerOnReset | resetLine | loadBank | setPublish | setPosture | setPostureMap | setHand => cases hc
  | lingerExpiry | pendingTapExpiry | dragLockExpiry | clockLoRead | keyactFallingEdge | clockTick => exact kept rfl
  | startWord | cellWord | endWord => exact kept (linkWord_posture ..)
  | frameStart sf => exact beginFrame_keeps same fun _ x => kept (startFrame_posture sf x s)
  | frameProcessingEnd sf => exact endProcessing_keeps same fun _ st f => kept (by simp [endFrame])
  | penRecord r => exact takePenRecord_keeps same (fun _ => kept rfl) fun _ _ => kept (takeRecord_posture r s)
  | penTimeoutExpiry => exact ite_keeps (kept (handPen_posture ..)) same
  | keyactRisingEdge => exact ite_keeps same (kept rfl)
  | typingGuardExpiry => exact ite_keeps (kept rfl) same
  | runSet => exact unlessHalted_keeps same (kept (setRun_posture s))
  | runClear => exact unlessHalted_keeps same (kept (clearRun_posture s))
  | stopEnd => exact ite_keeps (endStop_settingsKept s) same
  | notice => exact kept (takeNotice_posture s)
  | attnMaskWrite => exact unlessHalted_keeps same (kept rfl)
  | statusCauseClear | faultClear => exact unlessHalted_keeps same (kept (clearCauses_posture _ s))
  | registerWrite offset v => exact unlessHalted_keeps same (kept (writeRegister_posture offset v s))
  | commandExamination r => exact kept (examine_posture r s)
  | loadZones d => exact perform_keeps same fun f _ => loadZones_settingsKept d f s
  | setSurface => exact perform_keeps same fun f _ => kept (setSurface_posture f s)
  | clearTracking => exact perform_keeps same fun f _ => kept (by simp [clearTracking])
  | sleep => exact perform_keeps same fun f _ => kept (sleep_posture f s)
  | wake => exact perform_keeps same fun f _ => kept (wake_posture f s)
  | snapshot => exact perform_keeps same fun f _ => kept (takeSnapshotRecord_posture f s)
  | commandCompletion => exact kept (complete_posture s)
  | frameSlotStateRead sf b => exact kept (readFrameSlot_posture sf b s)
  | frameSlotPublished sf => exact kept (publishFrame_posture sf s)
  | penSlotStateRead b => exact kept (readPenSlot_posture b s)
  | penSlotPublished => exact kept (publishSample_posture s)
  | eventKindRead k => exact kept (readEventKind_posture k s)
  | eventPublished => exact kept (publishEvent_posture s)
  | accessFailure acc o => exact failAccess_settingsKept acc _ s
  | readTimeout acc o => exact ite_keeps (failAccess_settingsKept acc _ s) same
  | faultRecorded => exact kept (recordWritten_posture s)
  | faultRecordWriteFailure => exact ite_keeps ⟨rfl, rfl, rfl, rfl, rfl⟩ same

/-- What LOAD_BANK and SET_PUBLISH keep. -/
structure AllButBanksKept (s t : State) : Prop where
  posture : t.posture.posture = s.posture.posture
  map : t.posture.map = s.posture.map
  hand : t.posture.hand = s.posture.hand

@[simp] theorem withBank_posture (p : PostureUnit) (i : BankId) (b : Bank) : (withBank p i b).posture = p.posture := by
  cases i <;> rfl

@[simp] theorem withBank_map (p : PostureUnit) (i : BankId) (b : Bank) : (withBank p i b).map = p.map := by
  cases i <;> rfl

@[simp] theorem withBank_hand (p : PostureUnit) (i : BankId) (b : Bank) : (withBank p i b).hand = p.hand := by
  cases i <;> rfl

theorem loadBank_allButBanksKept (d : List (BitVec 64)) (f : InFlight) (s : State) :
    AllButBanksKept s (loadBank d f s) := by
  simp only [loadBank, readHead, applyEntries, concludeBank]
  (repeat' split) <;> constructor <;> simp [withStaging]

theorem setPublish_allButBanksKept (f : InFlight) (s : State) : AllButBanksKept s (setPublish f s) := by
  constructor <;> simp [setPublish]

/-- What SET_POSTURE keeps. -/
theorem setPosture_keeps (f : InFlight) (s : State) :
    (setPosture f s).posture = { s.posture with posture := (setPosture f s).posture.posture } := by
  simp only [setPosture]
  split <;> simp

theorem UnitStep.zones {sf : Surface} {u v : SurfaceUnit} (h : UnitStep sf u v) : v.zones = u.zones := by
  cases h with
  | beside h => exact h.zones
  | _ => rfl

theorem UnitSteps.zones {sf : Surface} {u v : SurfaceUnit} (h : UnitSteps sf u v) : v.zones = u.zones := by
  induction h with
  | refl => rfl
  | tail _ hstep ih => exact hstep.zones.trans ih

theorem nextState_zones {c : Instr} (hc : setsUnits c = false) (s : State) :
    (nextState c s).pad.zones = s.pad.zones ∧ (nextState c s).screen.zones = s.screen.zones :=
  have moved := nextState_unitsMoved hc s
  ⟨(moved .pad).zones, (moved .screen).zones⟩

theorem nextState_everySettingKept {c : Instr} (hc : setsSettings c = false) (hunits : setsUnits c = false) (s : State) :
    ((nextState c s).posture.bankA = s.posture.bankA ∧ (nextState c s).posture.bankB = s.posture.bankB) ∧
      (nextState c s).posture.posture = s.posture.posture ∧ (nextState c s).posture.map = s.posture.map ∧
      (nextState c s).posture.hand = s.posture.hand ∧
      (nextState c s).pad.zones = s.pad.zones ∧ (nextState c s).screen.zones = s.screen.zones :=
  have kept := nextState_settingsKept hc s
  ⟨⟨kept.bankA, kept.bankB⟩, kept.posture, kept.map, kept.hand, nextState_zones hunits s⟩

/-- Settles O17, setting by setting. -/
theorem settingsChangeOnlyByTheirCommands : Obligations.SettingsChangeOnlyByTheirCommands := by
  intro c s t h
  rw [exec_next_iff] at h
  subst h
  cases c with
  | powerOnReset | resetLine => exact ⟨rfl, trivial, trivial, trivial, rfl, rfl⟩
  | loadBank d =>
    obtain ⟨hposture, hmap, hhand⟩ := perform_keeps (P := AllButBanksKept s) (kind := 1) (body := loadBank d) (s := s)
      ⟨rfl, rfl, rfl⟩ fun f _ => loadBank_allButBanksKept d f s
    exact ⟨trivial, hposture, hmap, hhand, nextState_zones rfl s⟩
  | setPublish =>
    obtain ⟨hposture, hmap, hhand⟩ := perform_keeps (P := AllButBanksKept s) (kind := 7) (body := setPublish) (s := s)
      ⟨rfl, rfl, rfl⟩ fun f _ => setPublish_allButBanksKept f s
    exact ⟨trivial, hposture, hmap, hhand, nextState_zones rfl s⟩
  | setPosture =>
    have kept : (nextState .setPosture s).posture =
        { s.posture with posture := (nextState .setPosture s).posture.posture } :=
      perform_keeps (P := fun t => t.posture = { s.posture with posture := t.posture.posture }) rfl
        fun f _ => setPosture_keeps f s
    rw [kept]
    exact ⟨⟨rfl, rfl⟩, trivial, rfl, rfl, nextState_zones rfl s⟩
  | setPostureMap =>
    have kept : (nextState .setPostureMap s).posture =
        { s.posture with map := (nextState .setPostureMap s).posture.map } :=
      perform_keeps (P := fun t => t.posture = { s.posture with map := t.posture.map }) rfl
        fun f _ => by simp [setPostureMap]
    rw [kept]
    exact ⟨⟨rfl, rfl⟩, rfl, trivial, rfl, nextState_zones rfl s⟩
  | setHand =>
    have kept : (nextState .setHand s).posture = { s.posture with hand := (nextState .setHand s).posture.hand } :=
      perform_keeps (P := fun t => t.posture = { s.posture with hand := t.posture.hand }) rfl fun f _ => by simp [setHand]
    rw [kept]
    exact ⟨⟨rfl, rfl⟩, rfl, rfl, trivial, nextState_zones rfl s⟩
  | loadZones d =>
    have kept := nextState_settingsKept (c := .loadZones d) rfl s
    exact ⟨⟨kept.bankA, kept.bankB⟩, kept.posture, kept.map, kept.hand, trivial⟩
  | _ => exact nextState_everySettingKept rfl rfl s

/-! ### Causes -/

/-- From `s` to `t` no cause has been cleared. -/
def CausesGrow (s t : State) : Prop := s.regs.causes &&& t.regs.causes = s.regs.causes

theorem CausesGrow.of_causes {s t : State} (h : t.regs.causes = s.regs.causes) : CausesGrow s t := by
  simp [CausesGrow, h]

theorem CausesGrow.of_regs {s t : State} (h : t.regs = s.regs) : CausesGrow s t := .of_causes (congrArg _ h)

/-- A cause set. -/
theorem CausesGrow.of_setCause {s t : State} (c : Cause) (h : t.regs.causes = s.regs.causes ||| causeBit c) :
    CausesGrow s t := by
  unfold CausesGrow
  rw [h]
  generalize s.regs.causes = a
  ext i
  simp only [BitVec.getElem_and, BitVec.getElem_or]
  cases a[i] <;> simp

@[simp] theorem fence_causes (s : State) (k : Stream) : (fence s k).regs.causes = s.regs.causes := rfl

theorem clearCauses_causes (ones : BitVec 7) (s : State) :
    (clearCauses ones s).regs.causes = s.regs.causes &&& ~~~ones := by
  simp only [clearCauses, reopen]
  (repeat' split) <;> simp

@[simp] theorem tryStart_causes (s : State) : (tryStart s).regs.causes = s.regs.causes := by
  unfold tryStart
  split <;> rfl

@[simp] theorem setRun_causes (s : State) : (setRun s).regs.causes = s.regs.causes := by
  unfold setRun
  (repeat' split) <;> simp

@[simp] theorem clearRun_causes (s : State) : (clearRun s).regs.causes = s.regs.causes := by
  unfold clearRun
  (repeat' split) <;> rfl

@[simp] theorem writeControl_causes (v : BitVec 32) (s : State) : (writeControl v s).regs.causes = s.regs.causes := by
  have run : (if v.getLsbD 0 then setRun s else clearRun s).regs.causes = s.regs.causes := by split <;> simp
  simp only [writeControl]
  split
  · rw [takeNotice_regs]; exact run
  · exact run

/-- Of the register writes only that of STATUS changes causes. -/
theorem writeRegister_causes (offset : BitVec 8) (v : BitVec 32) (s : State) :
    (writeRegister offset v s).regs.causes =
      if offset = 0x08#8 then s.regs.causes &&& ~~~(v.extractLsb' 8 7) else s.regs.causes := by
  have offsets (n : Nat) (h : n ≠ 8) (ho : offset.toNat = n) : offset ≠ 0x08#8 := by
    rintro rfl
    exact h ho.symm
  unfold writeRegister
  split
  case h_1 ho => rw [writeControl_causes, if_neg (offsets _ (by decide) ho)]
  case h_2 ho => rw [clearCauses_causes, if_pos (BitVec.eq_of_toNat_eq ho)]; rfl
  case h_3 ho => rw [if_neg (offsets _ (by decide) ho)]; split <;> rfl
  case h_4 ho => rw [if_neg (offsets _ (by decide) ho)]; split <;> rfl
  case h_5 hstatus _ _ => rw [if_neg fun ho => hstatus (congrArg BitVec.toNat ho)]

theorem reportWake_causesGrow (k n : Nat) (x : Time) {s t : State} (h : t.regs = s.regs) :
    CausesGrow s (reportWake k n x t) := by
  unfold reportWake
  split
  · exact .of_regs h
  · exact .of_setCause .wake (by rw [handEvents_regs, setCause_causes, h])

theorem watchFrame_causesGrow (sf : Surface) (st : FrameStart) (f : Frame) (s : State) :
    CausesGrow s (watchFrame sf st f s) :=
  ite_keeps (P := CausesGrow s) (reportWake_causesGrow _ _ _ (by simp)) (.of_regs (by simp))

theorem processFrame_causesGrow (sf : Surface) (st : FrameStart) (f : Frame) (s : State) :
    CausesGrow s (processFrame sf st f s) := by
  unfold processFrame
  split
  case h_1 => exact .of_regs rfl
  case h_2 => exact .of_regs (trackFrame_regs sf st f s)
  case h_3 => exact ite_keeps (watchFrame_causesGrow sf st f s) (.of_regs (staleFrame_regs sf st f s))
  case h_4 => exact .of_regs (staleFrame_regs sf st f s)

theorem endFrame_causesGrow (sf : Surface) (st : FrameStart) (f : Frame) (s : State) :
    CausesGrow s (endFrame sf st f s) := by
  have grown := processFrame_causesGrow sf st f s
  simp only [CausesGrow, endFrame, drainEvents_regs, updateSurface_regs] at grown ⊢
  exact grown

theorem takeRecord_causesGrow (r : PenRecord) (s : State) : CausesGrow s (takeRecord r s) :=
  ite_keeps (P := CausesGrow s) (reportWake_causesGrow _ _ _ (handPen_regs ..)) (.of_regs (handPen_regs ..))

theorem publishFrame_causesGrow (sf : Surface) (s : State) : CausesGrow s (publishFrame sf s) := by
  simp only [publishFrame]
  split
  · exact .of_setCause (frameCause sf) (by simp)
  · exact .of_regs rfl

theorem publishSample_causesGrow (s : State) : CausesGrow s (publishSample s) := by
  unfold publishSample
  split
  · exact .of_setCause .pen rfl
  · exact .of_regs rfl

theorem publishEvent_causesGrow (s : State) : CausesGrow s (publishEvent s) := by
  unfold publishEvent
  split
  · exact .of_setCause .event (by simp)
  · exact .of_regs rfl

theorem releaseCommand_causes (f : InFlight) (s : State) : (releaseCommand f s).regs.causes = s.regs.causes := by
  simp only [releaseCommand]
  split <;> simp

theorem complete_causesGrow (s : State) : CausesGrow s (complete s) := by
  unfold complete
  (repeat' split)
  · exact .of_setCause .command (by simp [releaseCommand_causes])
  all_goals exact .of_regs rfl

theorem recordWritten_causesGrow (s : State) : CausesGrow s (recordWritten s) := by
  simp only [recordWritten]
  split
  · exact ite_keeps (P := CausesGrow s) (.of_regs rfl) (.of_setCause .fault rfl)
  · exact .of_regs rfl

theorem failAccess_causes (acc : Access) (o : Nat) (s : State) : (failAccess acc o s).regs.causes = s.regs.causes := by
  cases acc with
  | penSlotRead | penSlotWrite | eventKindRead | eventWrite =>
    simp only [failAccess, failPenRead, failPenWrite, failEventRead, failEventWrite]
    (repeat' split) <;> rfl
  | frameSlotRead | frameSlotWrite | recordRead | takenWrite | dataRead | snapshotWrite | finalWrite =>
    simp only [failAccess, failFrameRead, failFrameWrite, failRecordRead, failTaken, failDataRead, failSnapshotWrite,
      failFinalWrite]
    (repeat' split) <;> simp [releaseCommand_causes, failStream]

theorem beginDoze_causes (s : State) : (beginDoze s).regs.causes = s.regs.causes := by
  simp only [beginDoze]
  split <;> rfl

theorem sleep_causes (f : InFlight) (s : State) : (sleep f s).regs.causes = s.regs.causes := by
  simp only [sleep, finishOk_regs]
  split
  · exact beginDoze_causes s
  · rfl

theorem wake_causes (f : InFlight) (s : State) : (wake f s).regs.causes = s.regs.causes := by
  simp only [wake, finishOk_regs]
  split <;> rfl

theorem endStop_causes (s : State) : (endStop s).regs.causes = s.regs.causes :=
  ite_keeps (P := fun t => t.regs.causes = s.regs.causes) (tryStart_causes _) rfl

/-- The commands that clear causes. -/
def clearsCauses : Instr → Bool
  | .powerOnReset _ | .resetLine _ | .statusCauseClear _ | .faultClear | .registerWrite _ _ => true
  | _ => false

theorem nextState_causesGrow {c : Instr} (hc : clearsCauses c = false) (s : State) : CausesGrow s (nextState c s) := by
  have kept {t : State} (h : t.regs = s.regs) : CausesGrow s t := .of_regs h
  have same : CausesGrow s s := kept rfl
  cases c with
  | powerOnReset | resetLine | statusCauseClear | faultClear | registerWrite => cases hc
  | lingerExpiry | pendingTapExpiry | dragLockExpiry | clockLoRead | keyactFallingEdge | clockTick => exact kept rfl
  | startWord | cellWord | endWord => exact kept (linkWord_regs ..)
  | frameStart sf => exact beginFrame_keeps same fun _ x => kept (startFrame_regs sf x s)
  | frameProcessingEnd sf => exact endProcessing_keeps same fun _ st f => endFrame_causesGrow sf st f s
  | penRecord r => exact takePenRecord_keeps same (fun _ => kept rfl) fun _ _ => takeRecord_causesGrow r s
  | penTimeoutExpiry => exact ite_keeps (kept (handPen_regs ..)) same
  | keyactRisingEdge => exact ite_keeps same (kept rfl)
  | typingGuardExpiry => exact ite_keeps (kept rfl) same
  | runSet => exact unlessHalted_keeps same (.of_causes (setRun_causes s))
  | runClear => exact unlessHalted_keeps same (.of_causes (clearRun_causes s))
  | stopEnd => exact ite_keeps (.of_causes (endStop_causes s)) same
  | notice => exact kept (takeNotice_regs s)
  | attnMaskWrite => exact unlessHalted_keeps same (.of_causes rfl)
  | commandExamination r => exact kept (examine_regs r s)
  | loadBank d => exact perform_keeps same fun f _ => kept (loadBank_regs d f s)
  | loadZones d => exact perform_keeps same fun f _ => kept (loadZones_regs d f s)
  | setPostureMap | setHand | setPublish => exact perform_keeps same fun f _ => kept (finishOk_regs f _)
  | setPosture => exact perform_keeps same fun f _ => kept (setPosture_regs f s)
  | setSurface => exact perform_keeps same fun f _ => kept (setSurface_regs f s)
  | clearTracking => exact perform_keeps same fun f _ => kept (clearTracking_regs f s)
  | sleep => exact perform_keeps same fun f _ => .of_causes (sleep_causes f s)
  | wake => exact perform_keeps same fun f _ => .of_causes (wake_causes f s)
  | snapshot => exact perform_keeps same fun f _ => kept (takeSnapshotRecord_regs f s)
  | commandCompletion => exact complete_causesGrow s
  | frameSlotStateRead sf b => exact kept (readFrameSlot_regs sf b s)
  | frameSlotPublished sf => exact publishFrame_causesGrow sf s
  | penSlotStateRead b => exact kept (readPenSlot_regs b s)
  | penSlotPublished => exact publishSample_causesGrow s
  | eventKindRead k => exact kept (readEventKind_regs k s)
  | eventPublished => exact publishEvent_causesGrow s
  | accessFailure acc o => exact .of_causes (failAccess_causes acc _ s)
  | readTimeout acc o => exact ite_keeps (.of_causes (failAccess_causes acc _ s)) same
  | faultRecorded => exact recordWritten_causesGrow s
  | faultRecordWriteFailure => exact ite_keeps (.of_causes rfl) same

theorem unlessHalted_eq (f : State → State) (s : State) :
    unlessHalted f s = if s.regs.state = .halted then s else f s := rfl

/-- Settles O15. -/
theorem causesClearedOnlyByHostOrReset : Obligations.CausesClearedOnlyByHostOrReset := by
  intro c s t h
  rw [exec_next_iff] at h
  subst h
  cases c with
  | powerOnReset | resetLine => rfl
  | statusCauseClear v | faultClear =>
    dsimp only [nextState]
    rw [unlessHalted_eq]
    split
    · rfl
    · exact clearCauses_causes _ s
  | registerWrite offset v =>
    dsimp only [nextState]
    rw [unlessHalted_eq]
    by_cases hhalted : s.regs.state = .halted
    · rw [if_pos hhalted, if_neg fun h => h.1 hhalted]
    · rw [if_neg hhalted, writeRegister_causes]
      exact if_congr (and_iff_right hhalted).symm rfl rfl
  | _ => exact nextState_causesGrow rfl s

/-! ### The other surface -/

/-- From `s` to `t` the surface beside `sf` has not changed. -/
def OtherKept (sf : Surface) (s t : State) : Prop := surfaceOf t (otherSurface sf) = surfaceOf s (otherSurface sf)

theorem OtherKept.refl (sf : Surface) (s : State) : OtherKept sf s s := rfl

theorem OtherKept.trans {sf : Surface} {s t u : State} (h : OtherKept sf s t) (h' : OtherKept sf t u) : OtherKept sf s u :=
  Eq.trans h' h

theorem OtherKept.of_same {s t : State} (sf : Surface) (hpad : t.pad = s.pad) (hscreen : t.screen = s.screen) :
    OtherKept sf s t := by
  cases sf with
  | pad => exact hscreen
  | screen => exact hpad

theorem OtherKept.congr {sf : Surface} {s t u : State} (h : OtherKept sf s t) (hpad : u.pad = t.pad)
    (hscreen : u.screen = t.screen) : OtherKept sf s u := h.trans (.of_same sf hpad hscreen)

theorem withSurface_otherKept (sf : Surface) (s : State) (u : SurfaceUnit) : OtherKept sf s (withSurface s sf u) := by
  cases sf <;> rfl

theorem OtherKept.withSurface {sf : Surface} {s t : State} (h : OtherKept sf s t) (u : SurfaceUnit) :
    OtherKept sf s (withSurface t sf u) := h.trans (withSurface_otherKept sf t u)

theorem OtherKept.handFrame {sf : Surface} {s t : State} (h : OtherKept sf s t) (x : Handover) :
    OtherKept sf s (handFrame t sf x) := h.withSurface _

theorem OtherKept.resumeFrames {sf : Surface} {s t : State} (h : OtherKept sf s t) :
    OtherKept sf s (resumeFrames t sf) := h.withSurface _

theorem OtherKept.updateSurface {sf : Surface} {s t : State} (h : OtherKept sf s t) (g : SurfaceUnit → SurfaceUnit) :
    OtherKept sf s (updateSurface t sf g) := h.withSurface _

theorem OtherKept.endPadGestures {sf : Surface} {s t : State} (h : OtherKept sf s t) (o : EndOutcome) (x : Time) :
    OtherKept sf s (endPadGestures t sf o x) := h.congr (endPadGestures_pad ..) (endPadGestures_screen ..)

theorem consumeClear_otherKept (x : Time) (sf : Surface) (s : State) : OtherKept sf s (consumeClear x sf s) :=
  ite_keeps (P := OtherKept sf s) (((OtherKept.refl sf s).updateSurface _).endPadGestures _ _) (.refl sf s)

theorem closeAfterSleep_otherKept (x : Time) (sf : Surface) (s : State) : OtherKept sf s (closeAfterSleep x sf s) :=
  ite_keeps (P := OtherKept sf s) (((OtherKept.refl sf s).updateSurface _).endPadGestures _ _) (.refl sf s)

theorem takeView_otherKept (sf : Surface) (snap : Snapshot) (s : State) : OtherKept sf s (takeView sf snap s).2 := by
  cases sf with
  | pad => exact .refl _ s
  | screen => exact suspensionStep_pad snap s

theorem OtherKept.handClosingIfAny {sf : Surface} {s t : State} (h : OtherKept sf s t) (snap : Snapshot) (v : FrameView)
    (x : Time) : OtherKept sf s (handClosingIfAny sf snap v x t) :=
  ite_keeps (P := OtherKept sf s) h ((h.withSurface _).handFrame _)

theorem OtherKept.setWork {sf : Surface} {s t : State} (h : OtherKept sf s t) (snap : Snapshot) (v : FrameView)
    (w : FrameWork) : OtherKept sf s (setWork sf snap v w t) := h.updateSurface _

theorem OtherKept.startDiscard {sf : Surface} {s t : State} (h : OtherKept sf s t) (snap : Snapshot) (v : FrameView)
    (x : Time) : OtherKept sf s (startDiscard sf snap v x t) := (h.handClosingIfAny snap v x).setWork snap v _

theorem OtherKept.startTrack {sf : Surface} {s t : State} (h : OtherKept sf s t) (snap : Snapshot) (v : FrameView)
    (x : Time) : OtherKept sf s (startTrack sf snap v x t) :=
  (h.congr (padFloor_pad ..) (padFloor_screen ..)).setWork snap v _

theorem OtherKept.startSettling {sf : Surface} {s t : State} (h : OtherKept sf s t) (snap : Snapshot) (v : FrameView)
    (x : Time) : OtherKept sf s (startSettling sf snap v x t) := by
  simp only [Machine.startSettling]
  split
  · exact ((h.updateSurface _).updateSurface _).startDiscard snap v x
  · exact (((h.updateSurface _).updateSurface _).congr (openPen_pad ..) (openPen_screen ..)).startTrack snap v x

theorem OtherKept.startDeactivation {sf : Surface} {s t : State} (h : OtherKept sf s t) (snap : Snapshot)
    (v : FrameView) (x : Time) : OtherKept sf s (startDeactivation sf snap v x t) := by
  have ended := (h.updateSurface endTable).endPadGestures .postureCancelled x
  exact ((((ended.withSurface _).handFrame _).updateSurface _).congr (closePen_pad ..) (closePen_screen ..)).setWork
    snap v _

theorem OtherKept.startBankChange {sf : Surface} {s t : State} (h : OtherKept sf s t) (snap : Snapshot)
    (v : FrameView) (x : Time) : OtherKept sf s (startBankChange sf snap v x t) :=
  (((h.updateSurface endTable).endPadGestures .postureCancelled x).updateSurface _).startTrack snap v x

theorem OtherKept.outcomeRunning {sf : Surface} {s t : State} (h : OtherKept sf s t) (snap : Snapshot) (v : FrameView)
    (x : Time) : OtherKept sf s (outcomeRunning sf snap v x t) := by
  simp only [Machine.outcomeRunning]
  split
  case h_1 => exact ite_keeps (P := OtherKept sf s) ((h.updateSurface _).startSettling snap v x) (h.startDiscard snap v x)
  case h_2 => exact ite_keeps (P := OtherKept sf s) (h.startSettling snap v x) ((h.updateSurface _).startDiscard snap v x)
  case h_3 =>
    exact ite_keeps (P := OtherKept sf s) (h.startDeactivation snap v x)
      (ite_keeps (P := OtherKept sf s) (h.startTrack snap v x) (h.startBankChange snap v x))
  case h_4 => exact h.startDiscard snap v x

theorem startFrame_otherKept (sf : Surface) (x : Time) (s : State) : OtherKept sf s (startFrame sf x s) := by
  have ready := ((consumeClear_otherKept x sf s).trans (takeView_otherKept sf (takeSnapshot s sf) _)).trans
    (closeAfterSleep_otherKept x sf _)
  refine ite_keeps (P := OtherKept sf s) (ite_keeps (P := OtherKept sf s) ?_ ?_) (ready.outcomeRunning _ _ x)
  · exact (ready.handClosingIfAny _ _ x).setWork _ _ _
  · exact ready.startDiscard _ _ x

theorem trackFrame_otherKept (sf : Surface) (st : FrameStart) (f : Frame) (s : State) :
    OtherKept sf s (trackFrame sf st f s) := by
  rw [trackFrame_eq]
  have tracked := withSurface_otherKept sf s (trackedUnit sf st f (surfaceOf s sf))
  exact ((tracked.congr (padGestures_pad ..) (padGestures_screen ..)).handFrame _).updateSurface _

theorem watchFrame_otherKept (sf : Surface) (st : FrameStart) (f : Frame) (s : State) :
    OtherKept sf s (watchFrame sf st f s) := by
  have counted (g h : SurfaceUnit → SurfaceUnit) : OtherKept sf s (updateSurface (updateSurface s sf g) sf h) :=
    ((OtherKept.refl sf s).updateSurface g).updateSurface h
  exact ite_keeps (P := OtherKept sf s) ((counted _ _).congr (reportWake_pad ..) (reportWake_screen ..)) (counted _ _)

theorem processFrame_otherKept (sf : Surface) (st : FrameStart) (f : Frame) (s : State) :
    OtherKept sf s (processFrame sf st f s) := by
  unfold processFrame
  split
  case h_1 => exact .refl sf s
  case h_2 => exact trackFrame_otherKept sf st f s
  case h_3 => exact ite_keeps (watchFrame_otherKept sf st f s) ((OtherKept.refl sf s).updateSurface _)
  case h_4 => exact (OtherKept.refl sf s).updateSurface _

theorem endFrame_otherKept (sf : Surface) (st : FrameStart) (f : Frame) (s : State) : OtherKept sf s (endFrame sf st f s) :=
  ((processFrame_otherKept sf st f s).updateSurface nextFrame).congr (drainEvents_pad _) (drainEvents_screen _)

theorem readFrameSlot_otherKept (sf : Surface) (b : Byte) (s : State) : OtherKept sf s (readFrameSlot sf b s) := by
  simp only [readFrameSlot]
  split
  · exact ite_keeps (P := OtherKept sf s) (withSurface_otherKept ..) (OtherKept.refl sf s).resumeFrames
  · exact .refl sf s

theorem publishFrame_otherKept (sf : Surface) (s : State) : OtherKept sf s (publishFrame sf s) := by
  simp only [publishFrame]
  split
  case h_1 cells _ =>
    have written : OtherKept sf s (putCells s cells) := .of_same sf rfl rfl
    exact ((written.withSurface _).congr (setCause_pad ..) (setCause_screen ..)).resumeFrames
  case h_2 => exact .refl sf s

theorem linkWord_otherKept (sf : Surface) (f : State → SurfaceUnit → SurfaceUnit) (s : State) :
    OtherKept sf s (linkWord sf f s) :=
  unlessHalted_keeps (P := OtherKept sf s) (.refl sf s) (withSurface_otherKept ..)

/-- Settles O16. -/
theorem surfacesWorkIndependently : Obligations.SurfacesWorkIndependently := by
  intro c s t h
  rw [exec_next_iff] at h
  subst h
  cases c with
  | startWord sf | cellWord sf | endWord sf => exact linkWord_otherKept sf _ s
  | frameStart sf =>
    exact beginFrame_keeps (P := OtherKept sf s) (.refl sf s) fun _ x => startFrame_otherKept sf x s
  | frameProcessingEnd sf =>
    exact endProcessing_keeps (P := OtherKept sf s) (.refl sf s) fun _ st f => endFrame_otherKept sf st f s
  | frameSlotStateRead sf b => exact readFrameSlot_otherKept sf b s
  | frameSlotPublished sf => exact publishFrame_otherKept sf s
  | _ => trivial

end Sys2Proof.Machine
end

section
/-! A frame's start (R13, R14). What a start changes is the surface's unit, the suspension, and beside them the
Pen Channel, the gestures and what they hand over. `withUnit` puts the first two into a state that has the others,
so each operation of the start is an equation about the unit and one about the state beside it. -/

namespace Sys2Proof.Machine

/-! ### A unit and a suspension put into a state -/

/-- A state with a surface's unit and the suspension replaced. -/
def withUnit (s : State) (sf : Surface) (u : SurfaceUnit) (x : Suspension) : State :=
  { withSurface s sf u with suspension := x }

@[simp] theorem surfaceOf_withUnit (s : State) (sf : Surface) (u : SurfaceUnit) (x : Suspension) :
    surfaceOf (withUnit s sf u x) sf = u := by cases sf <;> rfl

@[simp] theorem withUnit_suspension (s : State) (sf : Surface) (u : SurfaceUnit) (x : Suspension) :
    (withUnit s sf u x).suspension = x := rfl

@[simp] theorem withUnit_pen (s : State) (sf : Surface) (u : SurfaceUnit) (x : Suspension) :
    (withUnit s sf u x).pen = s.pen := by cases sf <;> rfl

@[simp] theorem withUnit_penOut (s : State) (sf : Surface) (u : SurfaceUnit) (x : Suspension) :
    (withUnit s sf u x).penOut = s.penOut := by cases sf <;> rfl

@[simp] theorem withUnit_gestures (s : State) (sf : Surface) (u : SurfaceUnit) (x : Suspension) :
    (withUnit s sf u x).gestures = s.gestures := by cases sf <;> rfl

@[simp] theorem withUnit_events (s : State) (sf : Surface) (u : SurfaceUnit) (x : Suspension) :
    (withUnit s sf u x).events = s.events := by cases sf <;> rfl

theorem withUnit_self (s : State) (sf : Surface) : withUnit s sf (surfaceOf s sf) s.suspension = s := by
  cases sf <;> rfl

theorem withSurface_eq_withUnit (s : State) (sf : Surface) (u : SurfaceUnit) :
    withSurface s sf u = withUnit s sf u s.suspension := by cases sf <;> rfl

theorem updateSurface_withUnit (s : State) (sf : Surface) (u : SurfaceUnit) (x : Suspension)
    (g : SurfaceUnit → SurfaceUnit) : updateSurface (withUnit s sf u x) sf g = withUnit s sf (g u) x := by
  cases sf <;> rfl

theorem endPadGestures_withUnit (s : State) (sf : Surface) (u : SurfaceUnit) (x : Suspension) (o : EndOutcome)
    (t : Time) : endPadGestures (withUnit s sf u x) sf o t = withUnit (endPadGestures s sf o t) sf u x := by
  cases sf <;> rfl

theorem padFloor_withUnit (s : State) (sf : Surface) (u : SurfaceUnit) (x : Suspension) (snap : Snapshot) (t : Time) :
    padFloor sf snap t (withUnit s sf u x) = withUnit (padFloor sf snap t s) sf u x := by cases sf <;> rfl

theorem openPen_withUnit (s : State) (sf : Surface) (u : SurfaceUnit) (x : Suspension) :
    openPen sf (withUnit s sf u x) = withUnit (openPen sf s) sf u x := by cases sf <;> rfl

theorem handPen_withUnit (s : State) (sf : Surface) (u : SurfaceUnit) (x : Suspension) (p : PenStep) :
    handPen (withUnit s sf u x) p = withUnit (handPen s p) sf u x := by
  have hregs : (withUnit s sf u x).regs = s.regs := by cases sf <;> rfl
  unfold handPen
  rw [hregs]
  split <;> cases sf <;> rfl

theorem closePen_withUnit (s : State) (sf : Surface) (u : SurfaceUnit) (x : Suspension) :
    closePen sf (withUnit s sf u x) = withUnit (closePen sf s) sf u x := by
  cases sf with
  | pad => rfl
  | screen => exact handPen_withUnit s .screen u x _

/-! ### The unit of a started frame -/

/-- The handover of a unit's closing list as a frame's result. -/
def closingHandover (sf : Surface) (snap : Snapshot) (v : FrameView) (t : Time) (u : SurfaceUnit) : Handover :=
  handoverOf sf snap t (handoverFlags sf v false false) u.created
    (u.closing.map (limitClosing (sectionOf sf snap.values).mapping))

/-- A unit whose closing list has been handed over in the state `s`. -/
def handedUnit (sf : Surface) (snap : Snapshot) (v : FrameView) (t : Time) (s : State) (u : SurfaceUnit) : SurfaceUnit :=
  { u with
    closing := []
    publisher := runFrames sf (isFenced s.regs.fenced (frameStream sf)) s.clock u.created
      (u.publisher.handed ++ [closingHandover sf snap v t u]) u.publisher }

/-- A unit whose closing list, if it holds a contact, has been handed over. -/
def handedIfAny (sf : Surface) (snap : Snapshot) (v : FrameView) (t : Time) (s : State) (u : SurfaceUnit) : SurfaceUnit :=
  if u.closing.isEmpty then u else handedUnit sf snap v t s u

/-- A unit whose frame in processing has begun, with its work. -/
def workUnit (snap : Snapshot) (v : FrameView) (w : FrameWork) (u : SurfaceUnit) : SurfaceUnit :=
  match u.processing with
  | some p => { u with processing := some { p with start := some { snap := snap, view := v, work := w, zones := u.zones } } }
  | none => u

theorem workUnit_eq {u : SurfaceUnit} {f : Frame} (h : u.processing = some { frame := f, start := none })
    (snap : Snapshot) (v : FrameView) (w : FrameWork) :
    workUnit snap v w u = { u with
      processing := some { frame := f, start := some { snap := snap, view := v, work := w, zones := u.zones } } } := by
  simp only [workUnit, h]

@[simp] theorem workUnit_state (snap : Snapshot) (v : FrameView) (w : FrameWork) (u : SurfaceUnit) :
    (workUnit snap v w u).state = u.state := by
  unfold workUnit
  split <;> rfl

@[simp] theorem workUnit_enable (snap : Snapshot) (v : FrameView) (w : FrameWork) (u : SurfaceUnit) :
    (workUnit snap v w u).enable = u.enable := by
  unfold workUnit
  split <;> rfl

@[simp] theorem handedUnit_state (sf : Surface) (snap : Snapshot) (v : FrameView) (t : Time) (s : State)
    (u : SurfaceUnit) : (handedUnit sf snap v t s u).state = u.state := rfl

theorem handedIfAny_of_nil {u : SurfaceUnit} (h : u.closing = []) (sf : Surface) (snap : Snapshot) (v : FrameView)
    (t : Time) (s : State) : handedIfAny sf snap v t s u = u := by
  simp [handedIfAny, h]

theorem handedIfAny_of_ne_nil {u : SurfaceUnit} (h : u.closing ≠ []) (sf : Surface) (snap : Snapshot) (v : FrameView)
    (t : Time) (s : State) : handedIfAny sf snap v t s u = handedUnit sf snap v t s u := by
  simp [handedIfAny, h]

@[simp] theorem handedIfAny_state (sf : Surface) (snap : Snapshot) (v : FrameView) (t : Time) (s : State)
    (u : SurfaceUnit) : (handedIfAny sf snap v t s u).state = u.state := by
  unfold handedIfAny
  split <;> rfl

theorem setWork_withUnit (s : State) (sf : Surface) (u : SurfaceUnit) (x : Suspension) (snap : Snapshot) (v : FrameView)
    (w : FrameWork) : setWork sf snap v w (withUnit s sf u x) = withUnit s sf (workUnit snap v w u) x :=
  updateSurface_withUnit s sf u x _

theorem handClosing_withUnit (s : State) (sf : Surface) (u : SurfaceUnit) (x : Suspension) (snap : Snapshot)
    (v : FrameView) (t : Time) :
    handClosing sf snap v t (withUnit s sf u x) = withUnit s sf (handedUnit sf snap v t s u) x := by cases sf <;> rfl

theorem handClosingIfAny_withUnit (s : State) (sf : Surface) (u : SurfaceUnit) (x : Suspension) (snap : Snapshot)
    (v : FrameView) (t : Time) :
    handClosingIfAny sf snap v t (withUnit s sf u x) = withUnit s sf (handedIfAny sf snap v t s u) x := by
  unfold handClosingIfAny handedIfAny
  rw [surfaceOf_withUnit]
  split
  · rfl
  · exact handClosing_withUnit s sf u x snap v t

/-! ### The outcomes (Table 1-5) -/

theorem startDiscard_withUnit (s : State) (sf : Surface) (u : SurfaceUnit) (x : Suspension) (snap : Snapshot)
    (v : FrameView) (t : Time) :
    startDiscard sf snap v t (withUnit s sf u x) =
      withUnit s sf (workUnit snap v .discard (handedIfAny sf snap v t s u)) x := by
  rw [startDiscard, handClosingIfAny_withUnit, setWork_withUnit]

theorem startTrack_withUnit (s : State) (sf : Surface) (u : SurfaceUnit) (x : Suspension) (snap : Snapshot)
    (v : FrameView) (t : Time) :
    startTrack sf snap v t (withUnit s sf u x) = withUnit (padFloor sf snap t s) sf (workUnit snap v .track u) x := by
  rw [startTrack, padFloor_withUnit, setWork_withUnit]

/-- A settling unit that discards one frame more. -/
def settledOnce (snap : Snapshot) (u : SurfaceUnit) : SurfaceUnit :=
  { u with
    bankInForce := snap.bank
    settle := u.settle + 1
    counters := { u.counters with settleDiscards := bump16 u.counters.settleDiscards } }

theorem startSettling_of_lt {u : SurfaceUnit} {sf : Surface} {snap : Snapshot}
    (h : u.settle < (sectionOf sf snap.values).settleFrames) (s : State) (x : Suspension) (v : FrameView) (t : Time) :
    startSettling sf snap v t (withUnit s sf u x) =
      withUnit s sf (workUnit snap v .discard (handedIfAny sf snap v t s (settledOnce snap u))) x := by
  simp only [startSettling, updateSurface_withUnit, surfaceOf_withUnit]
  rw [if_pos h, startDiscard_withUnit]
  rfl

theorem startSettling_of_le {u : SurfaceUnit} {sf : Surface} {snap : Snapshot}
    (h : (sectionOf sf snap.values).settleFrames ≤ u.settle) (s : State) (x : Suspension) (v : FrameView) (t : Time) :
    startSettling sf snap v t (withUnit s sf u x) =
      withUnit (padFloor sf snap t (openPen sf s)) sf
        (workUnit snap v .track { u with bankInForce := snap.bank, state := .active }) x := by
  simp only [startSettling, updateSurface_withUnit, surfaceOf_withUnit]
  rw [if_neg (Nat.not_lt.2 h), openPen_withUnit, startTrack_withUnit]

theorem startDeactivation_withUnit (s : State) (sf : Surface) (u : SurfaceUnit) (x : Suspension) (snap : Snapshot)
    (v : FrameView) (t : Time) :
    startDeactivation sf snap v t (withUnit s sf u x) =
      withUnit (closePen sf (endPadGestures s sf .postureCancelled t)) sf
        (workUnit snap v .discard { handedUnit sf snap v t (endPadGestures s sf .postureCancelled t) (endTable u) with
          state := .inactive, bankInForce := snap.bank }) x := by
  simp only [startDeactivation]
  rw [updateSurface_withUnit, endPadGestures_withUnit, handClosing_withUnit, updateSurface_withUnit, closePen_withUnit,
    setWork_withUnit]

theorem startBankChange_withUnit (s : State) (sf : Surface) (u : SurfaceUnit) (x : Suspension) (snap : Snapshot)
    (v : FrameView) (t : Time) :
    startBankChange sf snap v t (withUnit s sf u x) =
      withUnit (padFloor sf snap t (endPadGestures s sf .postureCancelled t)) sf
        (workUnit snap v .track { endTable u with bankInForce := snap.bank }) x := by
  simp only [startBankChange]
  rw [updateSurface_withUnit, endPadGestures_withUnit, updateSurface_withUnit, startTrack_withUnit]

theorem outcomeRunning_inactive {u : SurfaceUnit} (h : u.state = .inactive) (s : State) (sf : Surface) (x : Suspension)
    (snap : Snapshot) (v : FrameView) (t : Time) :
    outcomeRunning sf snap v t (withUnit s sf u x) =
      if snap.active then startSettling sf snap v t (withUnit s sf { u with state := .settling, settle := 0 } x)
      else startDiscard sf snap v t (withUnit s sf u x) := by
  simp only [outcomeRunning, surfaceOf_withUnit, h, updateSurface_withUnit]

theorem outcomeRunning_settling {u : SurfaceUnit} (h : u.state = .settling) (s : State) (sf : Surface) (x : Suspension)
    (snap : Snapshot) (v : FrameView) (t : Time) :
    outcomeRunning sf snap v t (withUnit s sf u x) =
      if snap.active then startSettling sf snap v t (withUnit s sf u x)
      else startDiscard sf snap v t (withUnit s sf { u with state := .inactive, bankInForce := snap.bank } x) := by
  simp only [outcomeRunning, surfaceOf_withUnit, h, updateSurface_withUnit]

theorem outcomeRunning_active {u : SurfaceUnit} (h : u.state = .active) (s : State) (sf : Surface) (x : Suspension)
    (snap : Snapshot) (v : FrameView) (t : Time) :
    outcomeRunning sf snap v t (withUnit s sf u x) =
      if !snap.active then startDeactivation sf snap v t (withUnit s sf u x)
      else if snap.bank = u.bankInForce then startTrack sf snap v t (withUnit s sf u x)
      else startBankChange sf snap v t (withUnit s sf u x) := by
  simp only [outcomeRunning, surfaceOf_withUnit, h]

theorem outcomeRunning_watch {u : SurfaceUnit} (h : u.state = .watch) (s : State) (sf : Surface) (x : Suspension)
    (snap : Snapshot) (v : FrameView) (t : Time) :
    outcomeRunning sf snap v t (withUnit s sf u x) = startDiscard sf snap v t (withUnit s sf u x) := by
  simp only [outcomeRunning, surfaceOf_withUnit, h]

theorem outcomeDoze_watch {u : SurfaceUnit} (h : u.state = .watch) (s : State) (sf : Surface) (x : Suspension)
    (snap : Snapshot) (v : FrameView) (t : Time) :
    outcomeDoze sf snap v t (withUnit s sf u x) =
      withUnit s sf (workUnit snap v .watch (handedIfAny sf snap v t s u)) x := by
  rw [outcomeDoze, surfaceOf_withUnit, if_pos h, handClosingIfAny_withUnit, setWork_withUnit]

theorem outcomeDoze_of_ne {u : SurfaceUnit} (h : u.state ≠ .watch) (s : State) (sf : Surface) (x : Suspension)
    (snap : Snapshot) (v : FrameView) (t : Time) :
    outcomeDoze sf snap v t (withUnit s sf u x) =
      withUnit s sf (workUnit snap v .discard (handedIfAny sf snap v t s u)) x := by
  rw [outcomeDoze, surfaceOf_withUnit, if_neg h, startDiscard_withUnit]

/-! ### The steps before the outcome -/

/-- The live finger enable that a frame start leaves. -/
def startEnable (sf : Surface) (snap : Snapshot) (s : State) : Bool := (surfaceOf (takeView sf snap s).2 sf).enable

/-- The suspension that a frame start leaves. -/
def startSuspension (sf : Surface) (snap : Snapshot) (s : State) : Suspension := (takeView sf snap s).2.suspension

/-- The view is taken of what the end of a table and of the pad's gestures does not change. -/
theorem takeView_withUnit {s b : State} {sf : Surface} {u : SurfaceUnit} (snap : Snapshot)
    (hu : u.enable = (surfaceOf s sf).enable) (hpen : b.pen = s.pen) (hinputs : b.inputs = s.inputs)
    (hposture : b.posture = s.posture) :
    takeView sf snap (withUnit b sf u s.suspension) =
      ((takeView sf snap s).1, withUnit b sf { u with enable := startEnable sf snap s } (startSuspension sf snap s)) := by
  cases u
  subst hu
  cases sf with
  | pad =>
    simp only [takeView, padView, startSuspension, startEnable, withUnit, withSurface, hinputs, hposture,
      surfaceOf_pad]
  | screen =>
    simp only [takeView, suspensionStep, startEnable, startSuspension, screenView, withUnit, withSurface, surfaceOf_screen,
      hpen, hposture]
    (repeat' split) <;> simp_all

/-- What a clear request leaves of a unit. -/
def clearedUnit (u : SurfaceUnit) : SurfaceUnit := if u.clearReq then endTable { u with clearReq := false } else u

/-- What the first start after SLEEP leaves of a unit. -/
def wokenUnit (u : SurfaceUnit) : SurfaceUnit := if u.sleepClose then endTable { u with sleepClose := false } else u

/-- The state beside the unit once a clear request has been consumed. -/
def clearedState (x : Time) (sf : Surface) (s : State) : State :=
  if (surfaceOf s sf).clearReq then endPadGestures s sf .cleared x else s

/-- The state beside the unit before the outcome. -/
def readyState (x : Time) (sf : Surface) (s : State) : State :=
  if (surfaceOf s sf).sleepClose then endPadGestures (clearedState x sf s) sf .postureCancelled x else clearedState x sf s

/-- The unit before the outcome. -/
def readyUnit (sf : Surface) (snap : Snapshot) (s : State) : SurfaceUnit :=
  wokenUnit { clearedUnit (surfaceOf s sf) with enable := startEnable sf snap s }

theorem consumeClear_eq (x : Time) (sf : Surface) (s : State) :
    consumeClear x sf s = withUnit (clearedState x sf s) sf (clearedUnit (surfaceOf s sf)) s.suspension := by
  unfold consumeClear clearedState clearedUnit
  split
  · rw [updateSurface, withSurface_eq_withUnit, endPadGestures_withUnit]
  · exact (withUnit_self s sf).symm

theorem closeAfterSleep_withUnit (x : Time) (sf : Surface) (s : State) (u : SurfaceUnit) (y : Suspension) :
    closeAfterSleep x sf (withUnit s sf u y) =
      withUnit (if u.sleepClose then endPadGestures s sf .postureCancelled x else s) sf (wokenUnit u) y := by
  unfold closeAfterSleep wokenUnit
  rw [surfaceOf_withUnit]
  split
  · rw [updateSurface_withUnit, endPadGestures_withUnit]
  · rfl

@[simp] theorem clearedUnit_enable (u : SurfaceUnit) : (clearedUnit u).enable = u.enable := by
  unfold clearedUnit
  split <;> rfl

@[simp] theorem clearedUnit_sleepClose (u : SurfaceUnit) : (clearedUnit u).sleepClose = u.sleepClose := by
  unfold clearedUnit
  split <;> rfl

@[simp] theorem clearedState_pen (x : Time) (sf : Surface) (s : State) : (clearedState x sf s).pen = s.pen := by
  unfold clearedState
  split <;> simp

@[simp] theorem clearedState_inputs (x : Time) (sf : Surface) (s : State) : (clearedState x sf s).inputs = s.inputs := by
  unfold clearedState
  split <;> simp

@[simp] theorem clearedState_posture (x : Time) (sf : Surface) (s : State) :
    (clearedState x sf s).posture = s.posture := by
  unfold clearedState
  split <;> simp

/-- A frame's start: the outcome, with the view taken, of a state whose table and gestures are ended as a clear
request and SLEEP ask. -/
theorem startFrame_eq (sf : Surface) (x : Time) (s : State) :
    startFrame sf x s =
      if s.regs.state = .doze then
        outcomeDoze sf (takeSnapshot s sf) (takeView sf (takeSnapshot s sf) s).1 x
          (withUnit (readyState x sf s) sf (readyUnit sf (takeSnapshot s sf) s) (startSuspension sf (takeSnapshot s sf) s))
      else
        outcomeRunning sf (takeSnapshot s sf) (takeView sf (takeSnapshot s sf) s).1 x
          (withUnit (readyState x sf s) sf (readyUnit sf (takeSnapshot s sf) s)
            (startSuspension sf (takeSnapshot s sf) s)) := by
  simp only [startFrame]
  rw [consumeClear_eq, takeView_withUnit (takeSnapshot s sf) (clearedUnit_enable _) (clearedState_pen x sf s)
    (clearedState_inputs x sf s) (clearedState_posture x sf s), closeAfterSleep_withUnit]
  simp only [readyState, readyUnit, clearedUnit_sleepClose]

end Sys2Proof.Machine
end

section
/-! The Pen Channel agrees with itself and with the screen's state (R98, R99, R101, R106, R107). -/

namespace Sys2Proof.Machine

/-! ### What every frame's start leaves -/

/-- What every frame's start leaves of the unit it began with, but for its outcome. -/
structure StartKept (u v : SurfaceUnit) : Prop where
  processing : v.processing = u.processing
  zones : v.zones = u.zones
  enable : v.enable = u.enable
  clearReq : v.clearReq = u.clearReq

/-- How the Pen Channel follows the surface's state: kept while both open it or both do not, opened with ACTIVE,
closed with INACTIVE. -/
def PenFollows (sf : Surface) (s t : State) (u v : SurfaceUnit) : Prop :=
  (t.pen = s.pen ∧ opensPen v.state = opensPen u.state) ∨ (t.pen = (openPen sf s).pen ∧ v.state = .active) ∨
    (t.pen = (closePen sf s).pen ∧ v.state = .inactive)

/-- The result of an outcome on the unit `u` beside the state `s`: a unit like `u` that has its work. -/
def StartResult (sf : Surface) (snap : Snapshot) (v : FrameView) (s : State) (u : SurfaceUnit) (x : Suspension)
    (t : State) : Prop :=
  ∃ s' u' w, t = withUnit s' sf (workUnit snap v w u') x ∧ StartKept u u' ∧ PenFollows sf s s' u u'

section
variable (sf : Surface) (snap : Snapshot) (v : FrameView) (t : Time) (s : State) (u : SurfaceUnit) (x : Suspension)

theorem handedIfAny_startKept : StartKept u (handedIfAny sf snap v t s u) := by
  unfold handedIfAny
  split <;> exact ⟨rfl, rfl, rfl, rfl⟩

theorem startDiscard_result {u' : SurfaceUnit} (hkept : StartKept u u') (hstate : opensPen u'.state = opensPen u.state) :
    StartResult sf snap v s u x (startDiscard sf snap v t (withUnit s sf u' x)) := by
  obtain ⟨hprocessing, hzones, henable, hclear⟩ := handedIfAny_startKept sf snap v t s u'
  refine ⟨s, handedIfAny sf snap v t s u', .discard, startDiscard_withUnit s sf u' x snap v t, ?_, .inl ⟨rfl, ?_⟩⟩
  · exact ⟨hprocessing.trans hkept.processing, hzones.trans hkept.zones, henable.trans hkept.enable,
      hclear.trans hkept.clearReq⟩
  · rw [handedIfAny_state, hstate]

theorem startSettling_result {u' : SurfaceUnit} (hkept : StartKept u u') (hu : opensPen u.state = false)
    (hstate : u'.state = .settling) :
    StartResult sf snap v s u x (startSettling sf snap v t (withUnit s sf u' x)) := by
  obtain ⟨hprocessing, hzones, henable, hclear⟩ := hkept
  by_cases hsettle : u'.settle < (sectionOf sf snap.values).settleFrames
  · rw [startSettling_of_lt hsettle, ← startDiscard_withUnit]
    refine startDiscard_result sf snap v t s u x ⟨hprocessing, hzones, henable, hclear⟩ ?_
    rw [hu]
    simp only [settledOnce, hstate, opensPen]
  · rw [startSettling_of_le (Nat.not_lt.1 hsettle)]
    refine ⟨_, _, _, rfl, ⟨hprocessing, hzones, henable, hclear⟩, .inr (.inl ⟨?_, rfl⟩)⟩
    simp

theorem outcomeRunning_result : StartResult sf snap v s u x (outcomeRunning sf snap v t (withUnit s sf u x)) := by
  have same : StartKept u u := ⟨rfl, rfl, rfl, rfl⟩
  cases hstate : u.state with
  | inactive =>
    rw [outcomeRunning_inactive hstate]
    refine ite_keeps (P := StartResult sf snap v s u x) ?_ (startDiscard_result sf snap v t s u x same rfl)
    exact startSettling_result sf snap v t s u x ⟨rfl, rfl, rfl, rfl⟩ (by rw [hstate]; rfl) rfl
  | settling =>
    rw [outcomeRunning_settling hstate]
    refine ite_keeps (P := StartResult sf snap v s u x) ?_ ?_
    · exact startSettling_result sf snap v t s u x same (by rw [hstate]; rfl) hstate
    · exact startDiscard_result sf snap v t s u x ⟨rfl, rfl, rfl, rfl⟩ (by rw [hstate]; rfl)
  | active =>
    rw [outcomeRunning_active hstate, startDeactivation_withUnit, startTrack_withUnit, startBankChange_withUnit]
    refine ite_keeps (P := StartResult sf snap v s u x) ?_ (ite_keeps (P := StartResult sf snap v s u x) ?_ ?_)
    · refine ⟨_, _, _, rfl, ⟨rfl, rfl, rfl, rfl⟩, .inr (.inr ⟨?_, rfl⟩)⟩
      cases sf <;> rfl
    · exact ⟨_, _, _, rfl, same, .inl ⟨by simp, rfl⟩⟩
    · exact ⟨_, _, _, rfl, ⟨rfl, rfl, rfl, rfl⟩, .inl ⟨by simp, rfl⟩⟩
  | watch =>
    rw [outcomeRunning_watch hstate]
    exact startDiscard_result sf snap v t s u x same rfl

theorem outcomeDoze_result : StartResult sf snap v s u x (outcomeDoze sf snap v t (withUnit s sf u x)) := by
  by_cases hstate : u.state = .watch
  · rw [outcomeDoze_watch hstate]
    exact ⟨s, _, .watch, rfl, handedIfAny_startKept sf snap v t s u, .inl ⟨rfl, by rw [handedIfAny_state]⟩⟩
  · rw [outcomeDoze_of_ne hstate, ← startDiscard_withUnit]
    exact startDiscard_result sf snap v t s u x ⟨rfl, rfl, rfl, rfl⟩ rfl

end

theorem startFrame_result (sf : Surface) (t : Time) (s : State) :
    StartResult sf (takeSnapshot s sf) (takeView sf (takeSnapshot s sf) s).1 (readyState t sf s)
      (readyUnit sf (takeSnapshot s sf) s) (startSuspension sf (takeSnapshot s sf) s) (startFrame sf t s) := by
  rw [startFrame_eq]
  split
  · exact outcomeDoze_result ..
  · exact outcomeRunning_result ..

@[simp] theorem readyState_pen (t : Time) (sf : Surface) (s : State) : (readyState t sf s).pen = s.pen := by
  unfold readyState
  split <;> simp

theorem clearedUnit_state (u : SurfaceUnit) : (clearedUnit u).state = u.state := by
  unfold clearedUnit
  split <;> rfl

theorem wokenUnit_state (u : SurfaceUnit) : (wokenUnit u).state = u.state := by
  unfold wokenUnit
  split <;> rfl

theorem readyUnit_state (sf : Surface) (snap : Snapshot) (s : State) :
    (readyUnit sf snap s).state = (surfaceOf s sf).state := by
  rw [readyUnit, wokenUnit_state]
  exact clearedUnit_state _

/-! ### A channel that agrees with the screen's state -/

/-- A channel's items agree with its state and with a state of the screen. -/
structure ChannelSound (c : PenChannel) (k : SurfaceState) : Prop where
  guard : c.guardOn = (c.state != .away)
  timeout : c.timeout.isSome = penInRange c
  linger : c.linger.isSome = (c.state == .linger)
  buttons : penInRange c = false → c.button1 = false ∧ c.button2 = false
  isOpen : c.isOpen = opensPen k
  away : c.isOpen = false → c.state = .away

theorem penConsistent_iff (s : State) : PenConsistent s ↔ ChannelSound s.pen s.screen.state := by
  constructor
  · rintro ⟨h1, h2, h3, h4, h5, h6⟩
    exact ⟨h1, h2, h3, h4, h5, h6⟩
  · rintro ⟨h1, h2, h3, h4, h5, h6⟩
    exact ⟨h1, h2, h3, h4, h5, h6⟩

theorem PenConsistent.of_same {s t : State} (h : PenConsistent s) (hpen : t.pen = s.pen)
    (hstate : opensPen t.screen.state = opensPen s.screen.state) : PenConsistent t := by
  rw [penConsistent_iff] at h ⊢
  rw [hpen]
  exact { h with isOpen := h.isOpen.trans hstate.symm }

theorem ChannelSound.of_atRest {c : PenChannel} (h : PenAtRest c) {k : SurfaceState} (hk : opensPen k = false) :
    ChannelSound c k := by
  obtain ⟨hstate, hopen, hguard, hbutton1, hbutton2, htimeout, hlinger⟩ := h
  constructor <;> simp [penInRange, *]

theorem ChannelSound.openChannel {c : PenChannel} {k : SurfaceState} (h : ChannelSound c k) {k' : SurfaceState}
    (hk : opensPen k' = true) : ChannelSound { c with isOpen := true } k' :=
  { h with isOpen := hk.symm, away := fun hclosed => nomatch hclosed }

/-- The items that agreement does not speak of. -/
theorem ChannelSound.counted {c : PenChannel} {k : SurfaceState} (h : ChannelSound c k) (timeouts linkErrors : Nat) :
    ChannelSound { c with timeouts := timeouts, linkErrors := linkErrors } k := { h with }

/-- An open channel is one whose pen is not known to be away. -/
theorem ChannelSound.isOpen_of_ne {c : PenChannel} {k : SurfaceState} (h : ChannelSound c k) (hc : c.state ≠ .away) :
    c.isOpen = true := by
  cases hopen : c.isOpen with
  | true => rfl
  | false => exact absurd (h.away hopen) hc

theorem penInRange_iff (c : PenChannel) : penInRange c = true ↔ c.state = .hover ∨ c.state = .touch := by
  simp [penInRange]

theorem ne_away_of_penInRange {c : PenChannel} (h : penInRange c = true) : c.state ≠ .away := by
  rintro haway
  simp [penInRange, haway] at h

theorem tipTransition_state (q : PenParams) (k : PenState) (changed : Bool) (p : Nat) :
    (tipTransition q k changed p).1 = .hover ∨ (tipTransition q k changed p).1 = .touch := by
  unfold tipTransition
  (repeat' split) <;> simp

theorem takeInRange_sound {c : PenChannel} {k : SurfaceState} (h : ChannelSound c k) (hopen : c.isOpen = true)
    (q : PenParams) (bank : BankId) (r : PenRecord) (t : Time) : ChannelSound (takeInRange q bank r t c).channel k := by
  have hstate := tipTransition_state q c.state (c.state == .touch && toolOf r.tool != c.tool) r.pressure.toNat
  have hrange : penInRange (takeInRange q bank r t c).channel = true := (penInRange_iff _).2 hstate
  have hne : (takeInRange q bank r t c).channel.state ≠ .linger := by
    rcases hstate with hstate | hstate <;> simp [takeInRange, hstate]
  exact {
    guard := (bne_iff_ne.2 (ne_away_of_penInRange hrange)).symm
    timeout := hrange.symm
    linger := (beq_eq_false_iff_ne.2 hne).symm
    buttons := fun hout => absurd (hrange.symm.trans hout) (by decide)
    isOpen := h.isOpen
    away := fun hclosed => absurd (hopen.symm.trans hclosed) (by decide) }

theorem expireLinger_sound {c : PenChannel} {k : SurfaceState} (h : ChannelSound c k) (now : Time) :
    ChannelSound (expireLinger now c) k := by
  unfold expireLinger
  split
  case h_2 => exact h
  case h_1 d hd =>
    refine if hreached : reached now d then ?_ else (if_neg hreached).symm ▸ h
    rw [if_pos hreached]
    have hstate : c.state = .linger := by
      have := h.linger
      simpa [hd] using this.symm
    have hout : penInRange c = false := by simp [penInRange, hstate]
    have htimeout : c.timeout = none := by
      have := h.timeout
      rwa [hout, Option.isSome_eq_false_iff, Option.isNone_iff_eq_none] at this
    exact {
      guard := rfl
      timeout := by simp [htimeout, penInRange]
      linger := rfl
      buttons := fun _ => h.buttons hout
      isOpen := h.isOpen
      away := fun _ => rfl }

theorem leaveRange_sound {c : PenChannel} {k : SurfaceState} (h : ChannelSound c k) (hrange : penInRange c = true)
    (q : PenParams) (t now : Time) (timedOut : Bool) : ChannelSound (leaveRange q t now timedOut c).channel k := by
  have hne := ne_away_of_penInRange hrange
  have lingering : ChannelSound
      { c with
        state := .linger, button1 := false, button2 := false, timeout := none, linger := some (later t q.linger) } k := {
    guard := h.guard.trans (bne_iff_ne.2 hne)
    timeout := rfl
    linger := rfl
    buttons := fun _ => ⟨rfl, rfl⟩
    isOpen := h.isOpen
    away := fun hclosed => absurd ((h.isOpen_of_ne hne).symm.trans hclosed) (by decide) }
  exact expireLinger_sound lingering now

theorem takeSample_sound {c : PenChannel} {k : SurfaceState} (h : ChannelSound c k) (hopen : c.isOpen = true)
    (q : PenParams) (bank : BankId) (r : PenRecord) (t : Time) : ChannelSound (takeSample q bank r t c).channel k := by
  unfold takeSample
  split
  · exact takeInRange_sound h hopen q bank r t
  · split
    case isTrue hrange => exact leaveRange_sound h hrange q t t false
    case isFalse => exact h

/-! ### Every command -/

theorem handPen_pen (s : State) (p : PenStep) : (handPen s p).pen = p.channel := by
  unfold handPen
  split <;> rfl

theorem closePen_screen_pen (s : State) : (closePen .screen s).pen = (closeChannel s.clock s.pen).channel :=
  handPen_pen s _

theorem startFrame_penConsistent {s : State} (h : PenConsistent s) (sf : Surface) (t : Time) :
    PenConsistent (startFrame sf t s) := by
  obtain ⟨s', u', w, heq, -, hfollows⟩ := startFrame_result sf t s
  have hpen : (startFrame sf t s).pen = s'.pen := by rw [heq, withUnit_pen]
  unfold PenFollows at hfollows
  rw [readyState_pen, readyUnit_state] at hfollows
  cases sf with
  | pad =>
    have hscreen : (startFrame .pad t s).screen = s.screen := startFrame_otherKept .pad t s
    refine h.of_same (hpen.trans ?_) (by rw [hscreen])
    rcases hfollows with ⟨hkept, -⟩ | ⟨hkept, -⟩ | ⟨hkept, -⟩
    · exact hkept
    · exact hkept.trans (readyState_pen t .pad s)
    · exact hkept.trans (readyState_pen t .pad s)
  | screen =>
    have hstate : (startFrame .screen t s).screen.state = u'.state := by
      rw [← surfaceOf_screen, heq, surfaceOf_withUnit, workUnit_state]
    rcases hfollows with ⟨hkept, hopens⟩ | ⟨hopened, hactive⟩ | ⟨hclosed, hinactive⟩
    · exact h.of_same (hpen.trans hkept) (by rw [hstate, hopens, surfaceOf_screen])
    · rw [penConsistent_iff, hpen, hstate, hopened, hactive]
      have hchannel : (openPen .screen (readyState t .screen s)).pen = { s.pen with isOpen := true } := by
        rw [← readyState_pen t .screen s]
        rfl
      rw [hchannel]
      exact ((penConsistent_iff s).1 h).openChannel rfl
    · rw [penConsistent_iff, hpen, hstate, hclosed, hinactive, closePen_screen_pen]
      exact .of_atRest (closeChannel_atRest _ _) rfl

/-! ### Commands that leave the channel and the screen's state -/

/-- From `s` to `t` the Pen Channel and the screen's state have not changed. -/
def PenSideKept (s t : State) : Prop := t.pen = s.pen ∧ t.screen.state = s.screen.state

theorem PenSideKept.of_screen {s t : State} (hpen : t.pen = s.pen) (hscreen : t.screen = s.screen) : PenSideKept s t :=
  ⟨hpen, congrArg _ hscreen⟩

theorem PenSideKept.keeps {s t : State} (h : PenSideKept s t) (hs : PenConsistent s) : PenConsistent t :=
  hs.of_same h.1 (congrArg _ h.2)

theorem PenSideKept.congr {s t u : State} (h : PenSideKept s t) (hpen : u.pen = t.pen) (hscreen : u.screen = t.screen) :
    PenSideKept s u := ⟨hpen.trans h.1, (congrArg _ hscreen).trans h.2⟩

theorem PenSideKept.withSurface {s t : State} (h : PenSideKept s t) (sf : Surface) {u : SurfaceUnit}
    (hu : u.state = (surfaceOf t sf).state) : PenSideKept s (withSurface t sf u) := by
  obtain ⟨hpen, hstate⟩ := h
  cases sf with
  | pad => exact ⟨hpen, hstate⟩
  | screen => exact ⟨hpen, hu.trans hstate⟩

theorem PenSideKept.updateSurface {s t : State} (h : PenSideKept s t) (sf : Surface) {g : SurfaceUnit → SurfaceUnit}
    (hg : ∀ u, (g u).state = u.state) : PenSideKept s (updateSurface t sf g) := h.withSurface sf (hg _)

theorem PenSideKept.handFrame {s t : State} (h : PenSideKept s t) (sf : Surface) (x : Handover) :
    PenSideKept s (handFrame t sf x) := h.withSurface sf rfl

theorem penSideKept_refl (s : State) : PenSideKept s s := ⟨rfl, rfl⟩

theorem startOn_state (s : State) (k : BitVec 8) (u : SurfaceUnit) : (startOn s k u).state = u.state := by
  rw [startOn_link]

theorem cellOn_state (s : State) (sf : Surface) (v : BitVec 13) (u : SurfaceUnit) : (cellOn s sf v u).state = u.state := by
  rw [cellOn_link]

theorem acceptFrame_state (s : State) (k : BitVec 8) (cells : List Int) (u : SurfaceUnit) :
    (acceptFrame s k cells u).state = u.state := by
  simp only [acceptFrame, offerFrame]
  (repeat' split) <;> rfl

theorem endOn_state (s : State) (sf : Surface) (u : SurfaceUnit) : (endOn s sf u).state = u.state := by
  simp only [endOn, raiseOrphan_eq, raiseShort_eq]
  split
  · rfl
  · split
    · exact acceptFrame_state ..
    · rfl
  · rfl

theorem linkWord_penSideKept (sf : Surface) {f : State → SurfaceUnit → SurfaceUnit} (hf : ∀ s u, (f s u).state = u.state)
    (s : State) : PenSideKept s (linkWord sf f s) :=
  unlessHalted_keeps (P := PenSideKept s) (penSideKept_refl s) ((penSideKept_refl s).withSurface sf (hf s _))

theorem trackFrame_penSideKept (sf : Surface) (st : FrameStart) (f : Frame) (s : State) :
    PenSideKept s (trackFrame sf st f s) := by
  rw [trackFrame_eq]
  have tracked := (penSideKept_refl s).withSurface sf (u := trackedUnit sf st f (surfaceOf s sf)) rfl
  have worked := tracked.congr (padGestures_pen sf st f (trackedClasses sf st f (surfaceOf s sf))
    (trackedTable sf st f (surfaceOf s sf)) _) (padGestures_screen ..)
  exact (worked.handFrame sf _).updateSurface sf fun _ => rfl

theorem countDropped_penSideKept (sf : Surface) (n : Nat) (s : State) : PenSideKept s (countDropped sf n s) :=
  (penSideKept_refl s).updateSurface sf fun _ => rfl

theorem watchFrame_penSideKept (sf : Surface) (st : FrameStart) (f : Frame) (s : State) :
    PenSideKept s (watchFrame sf st f s) := by
  have run (n : Nat) := (countDropped_penSideKept sf (extractOn sf (sectionOf sf st.snap.values) f.cells).2 s).updateSurface
    sf (g := fun u => { u with wakeRun := n }) fun _ => rfl
  exact ite_keeps (P := PenSideKept s) ((run _).congr (reportWake_pen ..) (reportWake_screen ..)) (run _)

theorem processFrame_penSideKept (sf : Surface) (st : FrameStart) (f : Frame) (s : State) :
    PenSideKept s (processFrame sf st f s) := by
  unfold processFrame
  split
  case h_1 => exact penSideKept_refl s
  case h_2 => exact trackFrame_penSideKept sf st f s
  case h_3 => exact ite_keeps (watchFrame_penSideKept sf st f s) (countDropped_penSideKept sf _ s)
  case h_4 => exact countDropped_penSideKept sf _ s

theorem endFrame_penSideKept (sf : Surface) (st : FrameStart) (f : Frame) (s : State) :
    PenSideKept s (endFrame sf st f s) :=
  ((processFrame_penSideKept sf st f s).updateSurface sf (g := nextFrame) fun _ => rfl).congr (drainEvents_pen _)
    (drainEvents_screen _)

theorem readFrameSlot_penSideKept (sf : Surface) (b : Byte) (s : State) : PenSideKept s (readFrameSlot sf b s) := by
  simp only [readFrameSlot]
  split
  · exact ite_keeps (P := PenSideKept s) ((penSideKept_refl s).withSurface sf rfl) ((penSideKept_refl s).withSurface sf rfl)
  · exact penSideKept_refl s

theorem publishFrame_penSideKept (sf : Surface) (s : State) : PenSideKept s (publishFrame sf s) := by
  simp only [publishFrame]
  split
  case h_1 cells _ =>
    have written : PenSideKept s (putCells s cells) := ⟨rfl, rfl⟩
    have hunit : surfaceOf (putCells s cells) sf = surfaceOf s sf := by cases sf <;> rfl
    refine PenSideKept.withSurface (PenSideKept.congr (written.withSurface sf ?_) (setCause_pen ..)
      (setCause_screen ..)) sf rfl
    rw [hunit]
  case h_2 => exact penSideKept_refl s

theorem failAccess_penSideKept (acc : Access) (o : Nat) (s : State) : PenSideKept s (failAccess acc o s) := by
  cases acc with
  | frameSlotRead sf =>
    simp only [failAccess, failFrameRead]
    split
    · refine ite_keeps (P := PenSideKept s) ?_ (penSideKept_refl s)
      have failed : PenSideKept s (failStream s (frameStream sf) false o) := ⟨rfl, rfl⟩
      exact failed.withSurface sf rfl
    · exact penSideKept_refl s
  | frameSlotWrite sf =>
    simp only [failAccess, failFrameWrite]
    split
    · refine ite_keeps (P := PenSideKept s) ?_ (penSideKept_refl s)
      exact PenSideKept.withSurface (t := failStream _ (frameStream sf) true o) ⟨rfl, rfl⟩ sf rfl
    · exact penSideKept_refl s
  | penSlotRead | penSlotWrite | eventKindRead | eventWrite =>
    simp only [failAccess, failPenRead, failPenWrite, failEventRead, failEventWrite]
    (repeat' split) <;> exact ⟨rfl, rfl⟩
  | recordRead | takenWrite | dataRead | snapshotWrite | finalWrite =>
    simp only [failAccess, failRecordRead, failTaken, failDataRead, failSnapshotWrite, failFinalWrite]
    (repeat' split) <;> exact ⟨by simp, by simp⟩

/-! ### Starts, stops and DOZE -/

theorem tryStart_penConsistent {s : State} (h : PenConsistent s) (hpen : PenAtRest s.pen) : PenConsistent (tryStart s) := by
  unfold tryStart
  split
  · refine (penConsistent_iff _).2 (.of_atRest hpen ?_)
    simp only [startSurface]
    split <;> rfl
  · exact h.of_same rfl rfl

theorem penConsistent_of_rest {s : State} (hpen : PenAtRest s.pen) (hstate : s.screen.state = .inactive) :
    PenConsistent s := (penConsistent_iff s).2 (.of_atRest hpen (by rw [hstate]; rfl))

theorem endStop_penConsistent (s : State) : PenConsistent (endStop s) := by
  have hpen : PenAtRest (stopped s).pen := closeChannel_atRest s.clock s.pen
  have hstopped : PenConsistent (stopped s) := penConsistent_of_rest hpen rfl
  exact ite_keeps (tryStart_penConsistent hstopped hpen) hstopped

theorem setRun_penConsistent {s : State} (h : PenConsistent s) (hrest : s.regs.state = .off → PenAtRest s.pen) :
    PenConsistent (setRun s) := by
  unfold setRun
  refine ite_keeps h ?_
  split
  case isTrue hoff => exact tryStart_penConsistent (h.of_same rfl rfl) (hrest hoff)
  case isFalse => exact h.of_same rfl rfl

theorem clearRun_penSideKept (s : State) : PenSideKept s (clearRun s) := by
  unfold clearRun
  (repeat' split) <;> exact ⟨rfl, rfl⟩

theorem writeControl_penConsistent {s : State} (h : PenConsistent s) (hrest : s.regs.state = .off → PenAtRest s.pen)
    (v : BitVec 32) : PenConsistent (writeControl v s) := by
  have run : PenConsistent (if v.getLsbD 0 then setRun s else clearRun s) :=
    ite_keeps (setRun_penConsistent h hrest) ((clearRun_penSideKept s).keeps h)
  have masked : PenConsistent (writeMask (v.extractLsb' 8 7) (if v.getLsbD 0 then setRun s else clearRun s)) :=
    run.of_same rfl rfl
  exact ite_keeps (masked.of_same (takeNotice_pen _) (by rw [takeNotice_screen])) masked

theorem writeRegister_penConsistent {s : State} (h : PenConsistent s) (hrest : s.regs.state = .off → PenAtRest s.pen)
    (offset : BitVec 8) (v : BitVec 32) : PenConsistent (writeRegister offset v s) := by
  unfold writeRegister
  split
  case h_1 => exact writeControl_penConsistent h hrest v
  case h_2 => exact h.of_same (clearCauses_pen _ s) (by rw [clearCauses_screen])
  case h_3 => exact ite_keeps (h.of_same rfl rfl) h
  case h_4 => exact ite_keeps (h.of_same rfl rfl) h
  case h_5 => exact h

/-- SLEEP opens the channel of a screen that it puts into WATCH. -/
theorem beginDoze_penConsistent {s : State} (h : PenConsistent s) : PenConsistent (beginDoze s) := by
  simp only [beginDoze]
  split
  case isTrue hwatch =>
    refine (penConsistent_iff _).2 (((penConsistent_iff s).1 h).openChannel ?_)
    rw [openChannel_screen, hwatch]
    rfl
  case isFalse hwatch =>
    refine h.of_same rfl ?_
    simp only [sleepSurface] at hwatch ⊢
    split at hwatch
    · exact absurd rfl hwatch
    case isFalse hidle => rw [if_neg hidle]

/-- WAKE closes the channel of a screen that leaves WATCH. -/
theorem endDoze_penConsistent {s : State} (h : PenConsistent s) : PenConsistent (endDoze s) := by
  by_cases hwatch : s.screen.state = .watch
  · refine (penConsistent_iff _).2 (.of_atRest ?_ ?_)
    · simp only [endDoze, if_pos hwatch]
      exact closeChannel_atRest s.clock s.pen
    · simp only [endDoze, wakeSurface, hwatch, true_or, if_true]
      split <;> rfl
  · refine h.of_same (by simp only [endDoze, if_neg hwatch]) ?_
    simp only [endDoze, wakeSurface]
    split
    case isTrue hidle =>
      rw [hidle.resolve_left hwatch]
      split <;> rfl
    case isFalse => rfl

theorem sleep_penConsistent {s : State} (h : PenConsistent s) (f : InFlight) : PenConsistent (sleep f s) := by
  have slept : PenConsistent (if s.regs.state = .running ∧ s.regs.stopping = false then beginDoze s else s) :=
    ite_keeps (beginDoze_penConsistent h) h
  exact slept.of_same (finishOk_pen ..) (congrArg (fun u => opensPen (SurfaceUnit.state u)) (finishOk_screen ..))

theorem wake_penConsistent {s : State} (h : PenConsistent s) (f : InFlight) : PenConsistent (wake f s) := by
  have woken : PenConsistent (if s.regs.state = .doze ∧ s.regs.stopping = false then endDoze s else s) :=
    ite_keeps (endDoze_penConsistent h) h
  exact woken.of_same (finishOk_pen ..) (congrArg (fun u => opensPen (SurfaceUnit.state u)) (finishOk_screen ..))

theorem takeRecord_penConsistent {s : State} (h : PenConsistent s) (hopen : s.pen.isOpen = true) (r : PenRecord) :
    PenConsistent (takeRecord r s) := by
  have handed : PenConsistent (handPen s (takeSample (penBank s).pen s.screen.bankInForce r s.clock s.pen)) := by
    rw [penConsistent_iff, handPen_pen, handPen_screen]
    exact takeSample_sound ((penConsistent_iff s).1 h) hopen _ _ _ _
  exact ite_keeps (handed.of_same (reportWake_pen ..) (by rw [reportWake_screen])) handed

theorem expirePenTimeout_penConsistent {s : State} (h : PenConsistent s) (hdue : isDue s s.pen.timeout = true) :
    PenConsistent (expirePenTimeout s) := by
  have sound := (penConsistent_iff s).1 h
  have hrange : penInRange s.pen = true := by
    rw [← sound.timeout]
    cases htimeout : s.pen.timeout with
    | none => rw [htimeout] at hdue; cases hdue
    | some => rfl
  rw [expirePenTimeout, penConsistent_iff, handPen_pen, handPen_screen]
  exact leaveRange_sound (sound.counted (bump16 s.pen.timeouts) s.pen.linkErrors) hrange _ _ _ _

theorem nextState_penConsistent (c : Instr) (s : State) (hrest : AtRest s) (h : PenConsistent s) :
    PenConsistent (nextState c s) := by
  have atRest (hoff : s.regs.state = .off) : PenAtRest s.pen := ((atRest_iff s).1 hrest (.inl hoff)).pen
  have kept {t : State} (ht : PenSideKept s t) : PenConsistent t := ht.keeps h
  have apart {t : State} (hpen : t.pen = s.pen) (hscreen : t.screen = s.screen) : PenConsistent t :=
    kept (.of_screen hpen hscreen)
  cases c with
  | powerOnReset | resetLine => exact reset_penConsistent
  | pendingTapExpiry | dragLockExpiry | clockLoRead | keyactFallingEdge | clockTick => exact apart rfl rfl
  | startWord sf k => exact kept (linkWord_penSideKept sf (fun s u => startOn_state s k u) s)
  | cellWord sf v => exact kept (linkWord_penSideKept sf (fun s u => cellOn_state s sf v u) s)
  | endWord sf => exact kept (linkWord_penSideKept sf (fun s u => endOn_state s sf u) s)
  | frameStart sf => exact beginFrame_keeps h fun _ x => startFrame_penConsistent h sf x
  | frameProcessingEnd sf => exact endProcessing_keeps h fun _ st f => kept (endFrame_penSideKept sf st f s)
  | penRecord r =>
    refine takePenRecord_keeps h (fun _ => ?_) fun _ hopen => takeRecord_penConsistent h hopen r
    exact (penConsistent_iff _).2 (((penConsistent_iff s).1 h).counted _ _)
  | penTimeoutExpiry =>
    dsimp only [nextState]
    split
    case isTrue hdue => exact expirePenTimeout_penConsistent h hdue
    case isFalse => exact h
  | lingerExpiry => exact (penConsistent_iff _).2 (expireLinger_sound ((penConsistent_iff s).1 h) _)
  | keyactRisingEdge => exact ite_keeps h (apart rfl rfl)
  | typingGuardExpiry => exact ite_keeps (apart rfl rfl) h
  | runSet => exact unlessHalted_keeps h (setRun_penConsistent h atRest)
  | runClear => exact unlessHalted_keeps h (kept (clearRun_penSideKept s))
  | stopEnd => exact ite_keeps (endStop_penConsistent s) h
  | notice => exact apart (takeNotice_pen s) (takeNotice_screen s)
  | attnMaskWrite => exact unlessHalted_keeps h (apart rfl rfl)
  | statusCauseClear | faultClear =>
    exact unlessHalted_keeps h (apart (clearCauses_pen _ s) (clearCauses_screen _ s))
  | registerWrite offset v => exact unlessHalted_keeps h (writeRegister_penConsistent h atRest offset v)
  | commandExamination r => exact apart (examine_pen r s) (examine_screen r s)
  | loadBank d => exact perform_keeps h fun f _ => apart (loadBank_pen d f s) (loadBank_screen d f s)
  | loadZones d =>
    have zones := nextState_loadZones_zonesOnly d s .screen
    refine kept ⟨?_, ?_⟩
    · exact perform_keeps (P := fun t => t.pen = s.pen) rfl fun f _ => loadZones_pen d f s
    · rw [surfaceOf_screen] at zones
      rw [zones]
      rfl
  | setPostureMap | setHand | setPublish =>
    exact perform_keeps h fun f _ => apart (finishOk_pen f _) (finishOk_screen f _)
  | setPosture => exact perform_keeps h fun f _ => by simp only [setPosture]; split <;> exact apart (by simp) (by simp)
  | setSurface =>
    refine perform_keeps h fun f _ => kept ?_
    simp only [setSurface]
    (repeat' split) <;> exact ⟨by simp, by simp⟩
  | clearTracking =>
    refine perform_keeps h fun f _ => kept (PenSideKept.congr ?_ (finishOk_pen f _) (finishOk_screen f _))
    exact (penSideKept_refl s).withSurface _ rfl
  | sleep => exact perform_keeps h fun f _ => sleep_penConsistent h f
  | wake => exact perform_keeps h fun f _ => wake_penConsistent h f
  | snapshot =>
    refine perform_keeps h fun f _ => ?_
    simp only [takeSnapshotRecord]
    split <;> exact apart (by simp) (by simp)
  | commandCompletion => exact apart (complete_pen s) (complete_screen s)
  | frameSlotStateRead sf b => exact kept (readFrameSlot_penSideKept sf b s)
  | frameSlotPublished sf => exact kept (publishFrame_penSideKept sf s)
  | penSlotStateRead b => exact kept (by dsimp only [nextState]; unfold readPenSlot; (repeat' split) <;> exact ⟨rfl, rfl⟩)
  | penSlotPublished => exact kept (by dsimp only [nextState]; unfold publishSample; split <;> exact ⟨rfl, rfl⟩)
  | eventKindRead k => exact kept (by simp only [nextState, readEventKind]; (repeat' split) <;> exact ⟨rfl, rfl⟩)
  | eventPublished => exact kept (by dsimp only [nextState]; unfold publishEvent; split <;> exact ⟨by simp, by simp⟩)
  | accessFailure acc o => exact kept (failAccess_penSideKept acc _ s)
  | readTimeout acc o => exact ite_keeps (kept (failAccess_penSideKept acc _ s)) h
  | faultRecorded => exact kept (by simp only [nextState, recordWritten]; (repeat' split) <;> exact ⟨rfl, rfl⟩)
  | faultRecordWriteFailure =>
    exact ite_keeps (penConsistent_of_rest (s := enterHalted s) (closeChannel_atRest s.clock s.pen) rfl) h

/-- Settles O10: AtRest says what a start in OFF finds. -/
theorem stepKeepsPenConsistent : Obligations.StepKeepsPenConsistent := fun _ _ hrest h hstep =>
  (step_keeps (P := fun s => AtRest s ∧ PenConsistent s) (fun _ _ hs => hs)
    (fun c s hs => ⟨nextState_atRest c s hs.1, nextState_penConsistent c s hs.1 hs.2⟩) ⟨hrest, h⟩ hstep).2

end Sys2Proof.Machine
end

section
/-! What a frame's start takes and does (Table 1-5, R13, R14, R70, R88, R146, R147). -/

namespace Sys2Proof.Machine

/-! ### What a start takes -/

theorem exec_frameStart_of_waiting {s : State} {sf : Surface} {f : Frame}
    (hrun : s.regs.state = .running ∨ s.regs.state = .doze)
    (hframe : (surfaceOf s sf).processing = some { frame := f, start := none }) :
    exec (.frameStart sf) s = .next (startFrame sf f.time s) := by
  have hlive : isRunning s = true := (isRunning_iff s).2 hrun
  rw [exec_next_iff]
  simp only [nextState, beginFrame, if_pos hlive, hframe]

/-- The snapshot of a surface that is not in WATCH (R13). -/
theorem takeSnapshot_of_ne_watch {s : State} {sf : Surface} (h : (surfaceOf s sf).state ≠ .watch) :
    takeSnapshot s sf =
      { bank := (currentEntry s.posture).bank, active := activityOf (currentEntry s.posture) sf
        values := bankOf s.posture (currentEntry s.posture).bank } := by
  simp only [takeSnapshot, if_neg h]

/-- The view is the one that the state before the start and that after it show. -/
theorem takesView_of_start {sf : Surface} {s t : State} {snap : Snapshot}
    (henable : (surfaceOf t sf).enable = startEnable sf snap s) (hsuspension : t.suspension = startSuspension sf snap s) :
    TakesView sf s t (takeView sf snap s).1 := by
  cases sf with
  | pad => exact ⟨rfl, rfl⟩
  | screen =>
    refine ⟨henable.symm, (congrArg Suspension.applied hsuspension).symm, ?_, ?_, ?_, ?_, ?_⟩
    · exact congrArg PenChannel.guardOn (suspensionStep_pen snap s)
    · exact congrArg PenChannel.count (suspensionStep_pen snap s)
    · exact congrArg (fun c => c.lastPos.map fun q => q.1) (suspensionStep_pen snap s)
    · have hseen : (suspensionStep snap s).suspension.seen = s.suspension.seen := by
        simp only [suspensionStep]
        (repeat' split) <;> rfl
      simp only [takeView, screenView, suspensionStep_pen, hseen]
      exact Bool.eq_iff_iff.2 (by simp)
    · exact congrArg PostureUnit.hand (suspensionStep_posture snap s)

theorem padKeepsEnable_of_start {sf : Surface} {s t : State} {snap : Snapshot}
    (henable : (surfaceOf t sf).enable = startEnable sf snap s) (hsuspension : t.suspension = startSuspension sf snap s) :
    PadKeepsEnable sf s t := by
  rintro rfl
  exact ⟨hsuspension, henable⟩

/-- The suspension step (R88). -/
theorem startSuspension_screen (snap : Snapshot) (s : State) :
    let near := s.pen.guardOn = true ∧ snap.values.screenOnly.suspendAll = true
    let x := startSuspension .screen snap s
    x.seen = s.pen.count ∧
      (s.suspension.applied = false → near →
        x.applied = true ∧ x.saved = s.screen.enable ∧ startEnable .screen snap s = false) ∧
      (s.suspension.applied = true → ¬near →
        x.applied = false ∧ x.saved = s.suspension.saved ∧ startEnable .screen snap s = s.suspension.saved) ∧
      ((s.suspension.applied = true ↔ near) →
        x.applied = s.suspension.applied ∧ x.saved = s.suspension.saved ∧
          startEnable .screen snap s = s.screen.enable) := by
  rw [← Bool.and_eq_true]
  simp only [startSuspension, startEnable, takeView, suspensionStep, surfaceOf_screen]
  cases happlied : s.suspension.applied <;> cases s.pen.guardOn && snap.values.screenOnly.suspendAll <;> simp [happlied]

theorem readyUnit_processing (sf : Surface) (snap : Snapshot) (s : State) :
    (readyUnit sf snap s).processing = (surfaceOf s sf).processing := by
  unfold readyUnit wokenUnit clearedUnit
  (repeat' split) <;> rfl

theorem readyUnit_zones (sf : Surface) (snap : Snapshot) (s : State) :
    (readyUnit sf snap s).zones = (surfaceOf s sf).zones := by
  unfold readyUnit wokenUnit clearedUnit
  (repeat' split) <;> rfl

theorem readyUnit_enable (sf : Surface) (snap : Snapshot) (s : State) :
    (readyUnit sf snap s).enable = startEnable sf snap s := by
  unfold readyUnit wokenUnit
  split <;> rfl

/-- A clear request is consumed, whatever the surface's state (R62, R63). -/
theorem readyUnit_clearReq (sf : Surface) (snap : Snapshot) (s : State) : (readyUnit sf snap s).clearReq = false := by
  have cleared : (clearedUnit (surfaceOf s sf)).clearReq = false := by
    unfold clearedUnit
    split
    · rfl
    case isFalse h => exact Bool.eq_false_iff.2 h
  unfold readyUnit wokenUnit
  split <;> exact cleared

/-- A frame in the processing place that has begun. -/
abbrev begun (f : Frame) (st : FrameStart) : InProcess := { frame := f, start := some st }

/-- What the start of a surface's frame in the state `s` records, with its work. -/
abbrev startOf (sf : Surface) (s : State) (w : FrameWork) : FrameStart :=
  { snap := takeSnapshot s sf, view := (takeView sf (takeSnapshot s sf) s).1, work := w, zones := (surfaceOf s sf).zones }

/-- Every start begins the frame, with the snapshot, the view and the zone table. -/
theorem startFrame_begins {s : State} {sf : Surface} {f : Frame}
    (hframe : (surfaceOf s sf).processing = some { frame := f, start := none }) (x : Time) :
    ∃ w, (surfaceOf (startFrame sf x s) sf).processing = some (begun f (startOf sf s w)) ∧
      (surfaceOf (startFrame sf x s) sf).enable = startEnable sf (takeSnapshot s sf) s ∧
      (startFrame sf x s).suspension = startSuspension sf (takeSnapshot s sf) s ∧
      (surfaceOf (startFrame sf x s) sf).clearReq = false := by
  obtain ⟨s', u', w, heq, hkept, -⟩ := startFrame_result sf x s
  have hprocessing : u'.processing = some { frame := f, start := none } := by
    rw [hkept.processing, readyUnit_processing, hframe]
  rw [heq, surfaceOf_withUnit, workUnit_eq hprocessing]
  refine ⟨w, ?_, ?_, rfl, ?_⟩
  · rw [hkept.zones, readyUnit_zones]
  · exact hkept.enable.trans (readyUnit_enable ..)
  · exact hkept.clearReq.trans (readyUnit_clearReq ..)

/-- Settles O31. -/
theorem screenFrameStartTakesSuspensionStep : Obligations.ScreenFrameStartTakesSuspensionStep := by
  intro sf s f hrun hframe
  obtain ⟨w, hprocessing, henable, hsuspension, -⟩ := startFrame_begins hframe f.time
  refine ⟨_, _, exec_frameStart_of_waiting hrun hframe, hprocessing, rfl, rfl, ?_, rfl,
    takesView_of_start henable hsuspension, padKeepsEnable_of_start henable hsuspension, ?_⟩
  · exact fun _ => rfl
  · rintro rfl
    rw [hsuspension, ← surfaceOf_screen (startFrame _ _ _), henable]
    exact startSuspension_screen (takeSnapshot s .screen) s

/-! ### A start with nothing left over -/

theorem readyState_of_ready {s : State} {sf : Surface} {f : Frame} (h : ReadyToStart s sf f) (x : Time) :
    readyState x sf s = s := by
  obtain ⟨-, hclear, hsleep⟩ := h
  simp [readyState, clearedState, hclear, hsleep]

theorem readyUnit_of_ready {s : State} {sf : Surface} {f : Frame} (h : ReadyToStart s sf f) (snap : Snapshot) :
    readyUnit sf snap s = { surfaceOf s sf with enable := startEnable sf snap s } := by
  obtain ⟨-, hclear, hsleep⟩ := h
  simp [readyUnit, wokenUnit, clearedUnit, hclear, hsleep]

theorem startFrame_of_ready {s : State} {sf : Surface} {f : Frame} (h : ReadyToStart s sf f)
    (hrun : s.regs.state = .running) (x : Time) :
    startFrame sf x s =
      outcomeRunning sf (takeSnapshot s sf) (takeView sf (takeSnapshot s sf) s).1 x
        (withUnit s sf { surfaceOf s sf with enable := startEnable sf (takeSnapshot s sf) s }
          (startSuspension sf (takeSnapshot s sf) s)) := by
  rw [startFrame_eq, if_neg (by rw [hrun]; decide), readyState_of_ready h, readyUnit_of_ready h]

/-- A state that differs from `s` in a surface's unit and the suspension alone. -/
theorem withUnit_eq_self (s : State) (sf : Surface) (u : SurfaceUnit) (x : Suspension) :
    withUnit s sf u x =
      { withSurface s sf (surfaceOf (withUnit s sf u x) sf) with suspension := (withUnit s sf u x).suspension } := by
  rw [surfaceOf_withUnit]
  rfl

/-! ### The floor (R114, R129, R135) -/

theorem applyFloor_eq (floor : Nat) (t : Time) (g : GestureEngine) :
    applyFloor floor t g = (floorLeaves floor g, floorEvents floor t g) := by
  obtain ⟨service, sequence, reference, tap, counter⟩ := g
  cases service with
  | none => by_cases hfloor : 1 ≤ floor <;> simp only [applyFloor, floorLeaves, floorEvents, hfloor, if_true, if_false]
  | some v =>
    by_cases hfloor : 1 ≤ floor <;> by_cases hpriority : priority v.gesture ≤ floor <;>
      simp only [applyFloor, floorLeaves, floorEvents, hfloor, hpriority, if_true, if_false] <;> rfl

theorem padFloor_pad_eq (snap : Snapshot) (t : Time) (s : State) :
    padFloor .pad snap t s = handEvents { s with gestures := floorLeaves snap.values.padOnly.gestureFloor s.gestures }
      (floorEvents snap.values.padOnly.gestureFloor t s.gestures) := by
  simp only [padFloor, applyFloor_eq]

/-- A start that goes on to tracking takes the floor. -/
theorem floorTaken_of_padFloor {sf : Surface} {s t : State} {snap : Snapshot} {x : Time} {b : State}
    (hgestures : b.gestures = s.gestures) (hevents : b.events = s.events) (hregs : b.regs = s.regs)
    (hclock : b.clock = s.clock) (htg : t.gestures = (padFloor sf snap x b).gestures)
    (hte : t.events = (padFloor sf snap x b).events) : FloorTaken sf snap.values.padOnly.gestureFloor x s t := by
  constructor
  · rintro rfl
    rw [padFloor_pad_eq] at htg hte
    refine ⟨htg.trans (by rw [handEvents_gestures, hgestures]), hte.trans ?_⟩
    simp only [handEvents, handItems, hgestures, hevents, hregs, hclock]
  · rintro rfl
    exact ⟨htg.trans hgestures, hte.trans hevents⟩

theorem floorLeaves_zero (g : GestureEngine) : floorLeaves 0 g = g := by
  have positive (k : Gesture) : ¬ priority k ≤ 0 := by cases k <;> decide
  obtain ⟨service, sequence, reference, tap, counter⟩ := g
  cases service <;> simp [floorLeaves, positive]

/-! ### Closing lists (R57, R59, R60) -/

/-- Contacts in creation order stand with the oldest first. -/
theorem byCreation_sorted (c : BitVec 32) (l : List Contact) :
    (byCreation c l).Pairwise fun a b => (c - b.number).toNat ≤ (c - a.number).toNat := by
  have older_total : Std.Total (fun a b : Contact => (c - b.number).toNat < (c - a.number).toNat ∨
      ((c - a.number).toNat = (c - b.number).toNat ∧ a.slot ≤ b.slot)) := ⟨fun a b => by omega⟩
  have older_trans : IsTrans Contact (fun a b : Contact => (c - b.number).toNat < (c - a.number).toNat ∨
      ((c - a.number).toNat = (c - b.number).toNat ∧ a.slot ≤ b.slot)) := ⟨fun a b d => by omega⟩
  exact (List.pairwise_insertionSort _ l).imp fun h => by omega

theorem isClosingList_byCreation (u : SurfaceUnit) :
    IsClosingList u ((byCreation u.created u.table).map closeContact) :=
  ⟨(byCreation_perm _ _).map _, List.pairwise_map.2 (byCreation_sorted u.created u.table)⟩

theorem endTable_counters (u : SurfaceUnit) : (endTable u).counters = endingCounts u := rfl

/-- The closing list of an ended table, handed over as a frame's result. -/
theorem closingHandover_of_ended {sf : Surface} {s t : State} {f : Frame} {snap : Snapshot} {u : SurfaceUnit}
    (hclosing : u.closing = []) (htable : u.table = (surfaceOf s sf).table)
    (hcreated : u.created = (surfaceOf s sf).created) (hsuspension : t.suspension = startSuspension sf snap s) :
    ClosingHandover sf s t f snap (closingHandover sf snap (takeView sf snap s).1 f.time (endTable u)) := by
  have hentries : ((endTable u).closing.map (limitClosing (sectionOf sf snap.values).mapping)).map entryOf =
      (byCreation u.created u.table).map (closedEntry (outRangeX (sectionOf sf snap.values).mapping)
        (outRangeY (sectionOf sf snap.values).mapping)) := by
    simp only [endTable, hclosing, List.nil_append, List.map_map]
    rfl
  refine ⟨?_, ?_, rfl, rfl, rfl, rfl, rfl, rfl, ?_⟩
  · rw [← htable]
    refine ((byCreation_perm _ _).map _).trans ?_
    rw [hentries]
    exact (byCreation_perm _ _).map _
  · rw [← hcreated]
    exact List.pairwise_map.2 (byCreation_sorted u.created _)
  · rw [hsuspension]
    cases sf <;> rfl

/-! ### Settling and activation (R10, R11) -/

/-- A start whose result is known as a unit with its work beside a state: what it takes. -/
theorem takes_of_eq {sf : Surface} {s t b : State} {snap : Snapshot} {u : SurfaceUnit}
    (ht : t = withUnit b sf u (startSuspension sf snap s)) (hu : u.enable = startEnable sf snap s) :
    TakesView sf s t (takeView sf snap s).1 ∧ PadKeepsEnable sf s t := by
  have henable : (surfaceOf t sf).enable = startEnable sf snap s := by rw [ht, surfaceOf_withUnit, hu]
  have hsuspension : t.suspension = startSuspension sf snap s := by rw [ht]; rfl
  exact ⟨takesView_of_start henable hsuspension, padKeepsEnable_of_start henable hsuspension⟩

section
variable {sf : Surface} {s : State} {f : Frame}

/-- Shown inactive, a surface in SETTLING or INACTIVE is INACTIVE, and the frame is discarded. -/
theorem startFrame_shown_inactive (hready : ReadyToStart s sf f) (hrun : s.regs.state = .running)
    (hclosing : (surfaceOf s sf).closing = [])
    (hstate : (surfaceOf s sf).state = .settling ∨ (surfaceOf s sf).state = .inactive)
    (hactive : (takeSnapshot s sf).active = false) (x : Time) :
    startFrame sf x s = withUnit s sf
      { surfaceOf s sf with
        state := .inactive
        bankInForce := if (surfaceOf s sf).state = .settling then (takeSnapshot s sf).bank else (surfaceOf s sf).bankInForce
        processing := some (begun f (startOf sf s .discard))
        enable := startEnable sf (takeSnapshot s sf) s }
      (startSuspension sf (takeSnapshot s sf) s) := by
  have hframe := hready.1
  rw [startFrame_of_ready hready hrun]
  rcases hstate with hstate | hstate
  · rw [outcomeRunning_settling (by exact hstate), hactive, if_neg Bool.false_ne_true, startDiscard_withUnit,
      handedIfAny_of_nil (by exact hclosing), workUnit_eq (by exact hframe), if_pos hstate]
  · rw [outcomeRunning_inactive (by exact hstate), hactive, if_neg Bool.false_ne_true, startDiscard_withUnit,
      handedIfAny_of_nil (by exact hclosing), workUnit_eq (by exact hframe), if_neg (by rw [hstate]; decide), ← hstate]

/-- Shown active, a surface in SETTLING or INACTIVE settles; an INACTIVE one begins with settle count 0. -/
theorem startFrame_shown_active (hready : ReadyToStart s sf f) (hrun : s.regs.state = .running)
    (hstate : (surfaceOf s sf).state = .settling ∨ (surfaceOf s sf).state = .inactive)
    (hactive : (takeSnapshot s sf).active = true) (x : Time) :
    startFrame sf x s = startSettling sf (takeSnapshot s sf) (takeView sf (takeSnapshot s sf) s).1 x
      (withUnit s sf
        { surfaceOf s sf with
          state := .settling
          settle := if (surfaceOf s sf).state = .inactive then 0 else (surfaceOf s sf).settle
          enable := startEnable sf (takeSnapshot s sf) s }
        (startSuspension sf (takeSnapshot s sf) s)) := by
  rw [startFrame_of_ready hready hrun]
  rcases hstate with hstate | hstate
  · rw [outcomeRunning_settling (by exact hstate), hactive, if_pos rfl, if_neg (by rw [hstate]; decide), ← hstate]
  · rw [outcomeRunning_inactive (by exact hstate), hactive, if_pos rfl, if_pos hstate]

end

theorem openPen_pen (sf : Surface) (s : State) :
    (openPen sf s).pen = if sf = .screen then { s.pen with isOpen := true } else s.pen := by
  cases sf <;> rfl

/-- Settles O28: shown inactive, settling, and settled. -/
theorem frameStartSettles : Obligations.FrameStartSettles := by
  intro sf s f hrun hready hclosing hstate u active bank values need count
  have hframe : u.processing = some { frame := f, start := none } := hready.1
  have hexec := exec_frameStart_of_waiting (.inl hrun) hready.1
  have hne : (surfaceOf s sf).state ≠ .watch := by rcases hstate with h | h <;> rw [h] <;> decide
  have hsnap := takeSnapshot_of_ne_watch hne
  have hbank : bank = (takeSnapshot s sf).bank := congrArg Snapshot.bank hsnap.symm
  have hvalues : values = (takeSnapshot s sf).values := congrArg Snapshot.values hsnap.symm
  rcases (Bool.eq_false_or_eq_true active).symm with hactive | hactive
  · have heq := startFrame_shown_inactive hready hrun hclosing hstate (hsnap ▸ hactive) f.time
    obtain ⟨hview, henable⟩ := takes_of_eq heq rfl
    have other {p : Prop} (h : active = true) : p := absurd (hactive.symm.trans h) (by decide)
    refine ⟨_, startOf sf s .discard, hexec, hsnap, rfl, hview, henable, fun _ => ⟨?_, rfl, ?_⟩, other, other⟩
    · rw [heq, surfaceOf_withUnit, hbank]
    · rw [heq]
      exact withUnit_eq_self _ _ _ _
  · have heq := startFrame_shown_active hready hrun hstate (hsnap ▸ hactive) f.time
    have other {p : Prop} (h : active = false) : p := absurd (h.symm.trans hactive) (by decide)
    by_cases hlt : count < need
    · rw [startSettling_of_lt (by rw [← hvalues]; exact hlt), handedIfAny_of_nil (by exact hclosing),
        workUnit_eq (by exact hframe)] at heq
      obtain ⟨hview, henable⟩ := takes_of_eq heq rfl
      refine ⟨_, startOf sf s .discard, hexec, hsnap, rfl, hview, henable, other, fun _ _ => ⟨?_, rfl, ?_⟩,
        fun _ h => absurd hlt (Nat.not_lt.2 h)⟩
      · rw [heq, surfaceOf_withUnit, hbank]
        rfl
      · rw [heq]
        exact withUnit_eq_self _ _ _ _
    · rw [startSettling_of_le (by rw [← hvalues]; exact Nat.not_lt.1 hlt), workUnit_eq (by exact hframe)] at heq
      obtain ⟨hview, henable⟩ := takes_of_eq heq rfl
      refine ⟨_, startOf sf s .track, hexec, hsnap, rfl, hview, henable, other, fun _ h => absurd h hlt,
        fun _ _ => ⟨?_, rfl, ?_, ?_, ?_⟩⟩
      · rw [heq, surfaceOf_withUnit, hbank]
      · rw [heq, withUnit_pen, padFloor_pen, openPen_pen]
      · rw [hvalues]
        exact floorTaken_of_padFloor (openPen_gestures sf s) (openPen_events sf s) (openPen_regs sf s)
          (openPen_clock sf s) (by rw [heq, withUnit_gestures]) (by rw [heq, withUnit_events])
      · rw [heq]
        cases sf <;> rfl

/-! ### Items handed over in two parts -/

theorem holdFresh_handed (x : Option Event) (p : EventPublisher) (l : List (Option Event)) :
    holdFresh x { p with handed := l } = { holdFresh x p with handed := l } := by
  cases x with
  | none => rfl
  | some e =>
    simp only [holdFresh, holdEvent]
    (repeat' split) <;> rfl

/-- What is taken does not hang on what the publisher has as handed over: it is given the list. -/
theorem runEvents_handed (fenced : Bool) (now : Time) (l m : List (Option Event)) (p : EventPublisher) :
    runEvents fenced now l { p with handed := m } = runEvents fenced now l p := by
  induction l generalizing p with
  | nil => rfl
  | cons x xs ih =>
    simp only [runEvents, holdFresh_handed, ih]
    split
    · split
      · rfl
      · split
        · rfl
        · exact ih { p with access := .reading x now }
    · rfl

theorem runEvents_append (fenced : Bool) (now : Time) (l m : List (Option Event)) (p : EventPublisher) :
    runEvents fenced now ((runEvents fenced now l p).handed ++ m) (runEvents fenced now l p) =
      runEvents fenced now (l ++ m) p := by
  induction l generalizing p with
  | nil => exact runEvents_handed fenced now m [] p
  | cons x xs ih =>
    by_cases haccess : p.access = .none
    · simp only [List.cons_append, runEvents, if_pos haccess]
      split
      · exact ih _
      · split
        · exact ih p
        · exact ih _
    · simp only [List.cons_append, runEvents, if_neg haccess]

theorem handEvents_append (s : State) (l m : List Event) : handEvents (handEvents s l) m = handEvents s (l ++ m) := by
  have events := runEvents_append s.regs.fenced.events s.clock (s.events.handed ++ l.map some) (m.map some) s.events
  rw [List.append_assoc, ← List.map_append] at events
  exact congrArg (fun p => { s with events := p }) events

theorem handEvents_none (s : State) (l : List Event) : handEvents (handEvents s l) [] = handEvents s l := by
  rw [handEvents_append, List.append_nil]

/-! ### Deactivation, bank change and an unchanged entry (R146, R147) -/

/-- What the end of a pad's gestures as a whole leaves; on the screen it is nothing (R130, R131). -/
def WholeEnd (sf : Surface) (o : EndOutcome) (x : Time) (s t : State) : Prop :=
  (sf = .pad → t.gestures = emptyGestures s.gestures.counter ∧
    t.events = (handEvents s (wholeEnded s.gestures (outcomeCode o) x)).events) ∧
  (sf = .screen → t.gestures = s.gestures ∧ t.events = s.events)

theorem endPadGestures_pad_eq (s : State) (o : EndOutcome) (x : Time) :
    endPadGestures s .pad o x =
      handEvents { s with gestures := emptyGestures s.gestures.counter } (wholeEnded s.gestures (outcomeCode o) x) := by
  simp only [endPadGestures, endGestures, wholeEnded]
  cases s.gestures.service <;> rfl

theorem endPadGestures_wholeEnd (sf : Surface) (s : State) (o : EndOutcome) (x : Time) :
    WholeEnd sf o x s (endPadGestures s sf o x) := by
  constructor
  · rintro rfl
    rw [endPadGestures_pad_eq]
    exact ⟨rfl, rfl⟩
  · rintro rfl
    exact ⟨rfl, rfl⟩

/-- After the gestures have ended as a whole the floor finds none. -/
theorem padFloor_of_ended (sf : Surface) (s : State) (snap : Snapshot) (o : EndOutcome) (x y : Time) :
    padFloor sf snap y (endPadGestures s sf o x) = endPadGestures s sf o x := by
  cases sf with
  | screen => rfl
  | pad =>
    have hfloor : floorLeaves snap.values.padOnly.gestureFloor (emptyGestures s.gestures.counter) =
        emptyGestures s.gestures.counter := by
      simp [floorLeaves, emptyGestures]
    rw [endPadGestures_pad_eq, padFloor_pad_eq]
    simp only [handEvents_gestures, hfloor]
    exact handEvents_none { s with gestures := emptyGestures s.gestures.counter } _

theorem closeChannel_events (t : Time) (c : PenChannel) : (closeChannel t c).events = closingEvents c t := by
  simp only [closeChannel, closingEvents, penInRange_iff, buttonEdges]
  cases c.button1 <;> cases c.button2 <;> rfl

theorem closeChannel_samples (t : Time) (c : PenChannel) : (closeChannel t c).samples = closingSamples c t := by
  simp only [closeChannel, closingSamples, penInRange_iff, repeatSample]
  cases c.last <;> simp [noPenFlags]

theorem handPen_of_running {s : State} (h : s.regs.state = .running) (p : PenStep) :
    handPen s p = handSamples (handEvents { s with pen := p.channel } p.events) p.samples := if_pos h

/-- The screen leaves ACTIVE in RUNNING: the channel closes, handing over its closing events and sample. -/
theorem closePen_screen_of_running {s : State} (h : s.regs.state = .running) :
    PenAtRest (closePen .screen s).pen ∧ PenKept s.pen (closePen .screen s).pen ∧
      (closePen .screen s).events = (handEvents s (closingEvents s.pen s.clock)).events ∧
      (closePen .screen s).penOut = (handSamples s (closingSamples s.pen s.clock)).penOut := by
  refine ⟨?_, ?_, ?_, ?_⟩
  · rw [closePen_screen_pen]
    exact closeChannel_atRest _ _
  · rw [closePen_screen_pen]
    exact ⟨rfl, rfl, rfl, rfl, rfl, rfl⟩
  · rw [← closeChannel_events, closePen, handPen_of_running h]
    rfl
  · rw [← closeChannel_samples, closePen, handPen_of_running h]
    rfl

section
variable {sf : Surface} {s : State} {f : Frame}

/-- The handover of a deactivation: the whole table, ended. -/
def deactivationHandover (sf : Surface) (s : State) (x : Time) : Handover :=
  closingHandover sf (takeSnapshot s sf) (takeView sf (takeSnapshot s sf) s).1 x
    (endTable { surfaceOf s sf with enable := startEnable sf (takeSnapshot s sf) s })

theorem startFrame_deactivates (hready : ReadyToStart s sf f) (hrun : s.regs.state = .running)
    (hclosing : (surfaceOf s sf).closing = []) (hstate : (surfaceOf s sf).state = .active)
    (hactive : (takeSnapshot s sf).active = false) (x : Time) :
    startFrame sf x s =
      withUnit (closePen sf (endPadGestures s sf .postureCancelled x)) sf
        { surfaceOf s sf with
          state := .inactive
          bankInForce := (takeSnapshot s sf).bank
          table := []
          processing := some (begun f (startOf sf s .discard))
          enable := startEnable sf (takeSnapshot s sf) s
          counters := endingCounts (surfaceOf s sf)
          publisher := handedOver sf s (deactivationHandover sf s x) }
        (startSuspension sf (takeSnapshot s sf) s) := by
  have hframe := hready.1
  rw [startFrame_of_ready hready hrun, outcomeRunning_active (by exact hstate), hactive, Bool.not_false, if_pos rfl,
    startDeactivation_withUnit, workUnit_eq (by exact hframe)]
  simp only [handedUnit, endPadGestures_regs, endPadGestures_clock]
  refine congrArg (fun l => withUnit _ sf (SurfaceUnit.mk _ _ _ _ _ _ _ _ _ l _ _ _ _ _ _ _ _) _) ?_
  exact hclosing.symm

theorem startFrame_changesBank (hready : ReadyToStart s sf f) (hrun : s.regs.state = .running)
    (hclosing : (surfaceOf s sf).closing = []) (hstate : (surfaceOf s sf).state = .active)
    (hactive : (takeSnapshot s sf).active = true) (hbank : (takeSnapshot s sf).bank ≠ (surfaceOf s sf).bankInForce)
    (x : Time) :
    startFrame sf x s = withUnit (endPadGestures s sf .postureCancelled x) sf
        { surfaceOf s sf with
          bankInForce := (takeSnapshot s sf).bank
          table := []
          closing := (byCreation (surfaceOf s sf).created (surfaceOf s sf).table).map closeContact
          processing := some (begun f (startOf sf s .track))
          enable := startEnable sf (takeSnapshot s sf) s
          counters := endingCounts (surfaceOf s sf) }
        (startSuspension sf (takeSnapshot s sf) s) := by
  have hframe := hready.1
  rw [startFrame_of_ready hready hrun, outcomeRunning_active (by exact hstate), hactive, Bool.not_true,
    if_neg Bool.false_ne_true, if_neg hbank, startBankChange_withUnit, workUnit_eq (by exact hframe), padFloor_of_ended]
  simp only [endTable, hclosing, List.nil_append]
  rfl

/-- An unchanged entry (R146): the unit has its frame begun, and the floor is taken. -/
theorem startFrame_keeps (hready : ReadyToStart s sf f) (hrun : s.regs.state = .running)
    (hstate : (surfaceOf s sf).state = .active) (hactive : (takeSnapshot s sf).active = true)
    (hbank : (takeSnapshot s sf).bank = (surfaceOf s sf).bankInForce) (x : Time) :
    startFrame sf x s = withUnit (padFloor sf (takeSnapshot s sf) x s) sf
        { surfaceOf s sf with
          processing := some (begun f (startOf sf s .track))
          enable := startEnable sf (takeSnapshot s sf) s }
        (startSuspension sf (takeSnapshot s sf) s) := by
  have hframe := hready.1
  rw [startFrame_of_ready hready hrun, outcomeRunning_active (by exact hstate), hactive, Bool.not_true,
    if_neg Bool.false_ne_true, if_pos hbank, startTrack_withUnit, workUnit_eq (by exact hframe)]

end

/-- Settles O29: a deactivation, and a change of bank. -/
theorem frameStartDeactivates : Obligations.FrameStartDeactivates := by
  intro sf s f hrun hready hclosing hstate u active bank snap
  have hexec := exec_frameStart_of_waiting (.inl hrun) hready.1
  have hsnap : takeSnapshot s sf = snap := takeSnapshot_of_ne_watch (by rw [hstate]; decide)
  constructor
  · intro hactive
    have heq := startFrame_deactivates hready hrun hclosing hstate (hsnap ▸ hactive) f.time
    obtain ⟨hview, henable⟩ := takes_of_eq heq rfl
    obtain ⟨hpad, hscreen⟩ := endPadGestures_wholeEnd sf s .postureCancelled f.time
    refine ⟨_, startOf sf s .discard, deactivationHandover sf s f.time, hexec, ?_, rfl, hsnap, rfl, hview, ?_, henable, ?_,
      ?_, ?_⟩
    · rw [heq, surfaceOf_withUnit, hsnap]
    · rw [deactivationHandover, hsnap]
      exact closingHandover_of_ended hclosing rfl rfl (by rw [heq, ← hsnap]; rfl)
    · rintro rfl
      obtain ⟨hgestures, hevents⟩ := hpad rfl
      rw [heq]
      refine ⟨hgestures, ?_, ?_, hevents⟩
      · exact endPadGestures_pen s .pad .postureCancelled f.time
      · exact endPadGestures_penOut s .pad .postureCancelled f.time
    · rintro rfl
      rw [heq, withUnit_gestures, withUnit_pen, withUnit_events, withUnit_penOut]
      exact ⟨handPen_gestures .., closePen_screen_of_running hrun⟩
    · rw [heq]
      cases sf with
      | pad => rfl
      | screen =>
        dsimp only [endPadGestures]
        rw [closePen, handPen_of_running hrun]
        rfl
  · intro hactive hbank
    have heq := startFrame_changesBank hready hrun hclosing hstate (hsnap ▸ hactive) (hsnap ▸ hbank) f.time
    obtain ⟨hview, henable⟩ := takes_of_eq heq rfl
    obtain ⟨hpad, hscreen⟩ := endPadGestures_wholeEnd sf s .postureCancelled f.time
    refine ⟨_, startOf sf s .track, _, hexec, ?_, rfl, hsnap, rfl, hview, isClosingList_byCreation u, henable, ?_, ?_, ?_⟩
    · rw [heq, surfaceOf_withUnit, hsnap]
    · rw [heq, withUnit_gestures, withUnit_events]
      exact hpad
    · rw [heq, withUnit_gestures, withUnit_events]
      exact hscreen
    · rw [heq]
      cases sf <;> rfl

/-- Settles O30. -/
theorem frameStartKeepsContacts : Obligations.FrameStartKeepsContacts := by
  intro sf s f hrun hready hstate hactive hbank u values
  have hexec := exec_frameStart_of_waiting (.inl hrun) hready.1
  have hsnap : takeSnapshot s sf = { bank := u.bankInForce, active := true, values := values } := by
    rw [takeSnapshot_of_ne_watch (by rw [hstate]; decide), hactive, hbank]
  have heq := startFrame_keeps hready hrun hstate (by rw [hsnap]) (by rw [hsnap]) f.time
  obtain ⟨hview, henable⟩ := takes_of_eq heq rfl
  have hvalues : values = (takeSnapshot s sf).values := by rw [hsnap]
  have floor : FloorTaken sf values.padOnly.gestureFloor f.time s (startFrame sf f.time s) := by
    rw [hvalues]
    exact floorTaken_of_padFloor rfl rfl rfl rfl (by rw [heq, withUnit_gestures]) (by rw [heq, withUnit_events])
  refine ⟨_, startOf sf s .track, hexec, ?_, rfl, hsnap, rfl, hview, henable, floor, ?_, ?_⟩
  · rw [heq, surfaceOf_withUnit]
  · intro hzero
    obtain ⟨hpad, hscreen⟩ := floor
    cases sf with
    | pad => exact (hpad rfl).1.trans (by rw [hzero, floorLeaves_zero])
    | screen => exact (hscreen rfl).1
  · rw [heq]
    cases sf <;> rfl

end Sys2Proof.Machine
end

section
/-! The links' accepted frames, the register writes, the notice and the plain deadlines (R2 to R9, R93, R134, R139,
R160 to R166, R170, R189, R197). -/

namespace Sys2Proof.Machine

/-! ### Accepted frames (R2, R5 to R9) -/

theorem isGap_eq_true_iff (last : Option (BitVec 8)) (k : BitVec 8) : isGap last k = true ↔ ∃ n ∈ last, k ≠ n + 1 := by
  cases last <;> simp [isGap]

/-- The gap marker of an accepted frame (R5). -/
theorem gap_eq (u : SurfaceUnit) (k : BitVec 8) :
    (isGap u.lastNumber k && u.state != .inactive) =
      decide ((∃ n ∈ u.lastNumber, k ≠ n + 1) ∧ u.state ≠ .inactive) := by
  rw [Bool.eq_iff_iff, Bool.and_eq_true, isGap_eq_true_iff]
  simp

/-- Settles O26: the frame is dropped, discarded, or goes to the first free place. -/
theorem acceptedFrameTakesItsPlace : Obligations.AcceptedFrameTakesItsPlace := by
  intro sf s k cells hhalted hopened hlength u dropped gap frame counted placed
  obtain ⟨-, -, -, -, -, hfull⟩ := linkDecoderTable.1 sf s hhalted
  obtain ⟨haccept, -⟩ := hfull k cells hopened hlength
  rw [haccept]
  have hgap : (isGap u.lastNumber k && u.state != .inactive) = gap := gap_eq u k
  refine ⟨fun hdropped => ?_, fun hkept hstopping => ?_, fun hkept hrun => ?_⟩
  · rw [acceptFrame, if_pos (by exact hdropped)]
  · rw [acceptFrame, if_neg (by exact hkept), if_pos hstopping]
  · rw [acceptFrame, if_neg (by exact hkept), if_neg (by rw [hrun]; exact Bool.false_ne_true)]
    simp only [offerFrame]
    refine ⟨fun hfree => ?_, fun hbusy hfree => ?_, fun hbusy hwaiting => ?_⟩
    · simp only [u] at hfree hgap
      simp only [hfree, hgap]
      rfl
    · obtain ⟨p, hp⟩ := Option.isSome_iff_exists.1 hbusy
      simp only [u] at hp hfree hgap
      simp only [placed, u, hp, hfree, hgap]
      rfl
    · obtain ⟨p, hp⟩ := Option.isSome_iff_exists.1 hbusy
      obtain ⟨w, hw⟩ := Option.isSome_iff_exists.1 hwaiting
      simp only [u] at hp hw hgap
      simp only [placed, u, hp, hw, hgap]
      rfl

/-! ### Deadlines from now on (R188) -/

/-- A deadline less than half the Clock's range ahead has been reached only where it is now. -/
theorem reached_later {n : Nat} (h : n ≤ 2 ^ 47) (t : Time) : reached t (later t n) = decide (n = 0) := by
  have hdistance : (t - later t n).toNat = if n = 0 then 0 else 2 ^ 48 - n := by
    unfold later
    rw [BitVec.toNat_sub, BitVec.toNat_add, BitVec.toNat_ofNat]
    have := t.isLt
    split <;> omega
  rw [reached, hdistance, Bool.eq_iff_iff, decide_eq_true_iff, decide_eq_true_iff]
  split <;> omega

theorem reached_self (t : Time) : reached t t = true := by simp [reached]

/-! ### KEYACT (R189) -/

/-- Settles O42. -/
theorem keyactEdgesRunTypingGuard : Obligations.KeyactEdgesRunTypingGuard := by
  refine ⟨?_, fun s hlevel hrest => ?_, fun s => ?_, fun s hdue => ?_⟩
  · intro s hlevel hrun guard hguard
    have hreached := reached_later (n := guard) (by omega) s.clock
    rw [exec_next_iff]
    simp only [nextState, raiseKeyact, hlevel, (isRunning_iff s).2 hrun, restartTyping, if_true, if_false,
      Bool.false_eq_true]
    rw [show (bankOf s.posture s.pad.bankInForce).padOnly.typingGuard = guard from rfl, hreached]
    by_cases hzero : guard = 0 <;> simp only [hzero, later, decide_true, decide_false, if_true, if_false,
      Bool.false_eq_true]
  · have hidle : isRunning s = false := (isRunning_eq_false_iff s).2 hrest
    rw [exec_next_iff]
    simp only [nextState, raiseKeyact, hlevel, hidle, Bool.false_eq_true, if_false]
  · rfl
  · rw [exec_next_iff]
    simp only [nextState, expireTyping, isDue, hdue, reached_self, if_true]

/-! ### Tap and drag lock (R134, R139) -/

/-- An event handed to an idle and open strip is the one offered. -/
theorem handEvents_of_idle {s : State} (hfence : s.regs.fenced.events = false) (haccess : s.events.access = .none)
    (hhanded : s.events.handed = []) (e : Event) :
    (handEvents s [e]).events = { s.events with access := .reading (some e) s.clock } := by
  have hsome : (s.events.queue.isEmpty && (some e).isNone) = false := by simp
  simp only [handEvents, handItems, hhanded, List.nil_append, List.map_cons, List.map_nil, runEvents, haccess, hfence,
    hsome, if_true, if_false, Bool.false_eq_true]

/-- Settles O43. -/
theorem tapAndDragLockExpire : Obligations.TapAndDragLockExpire := by
  refine ⟨fun s p htap hdeadline => ?_, fun s v hservice hlock => ?_⟩
  · have hexpire : expireTap s.clock s.gestures =
        ({ s.gestures with tap := none }, [tapEvent p.fingers p.pos p.lift]) := by
      simp only [expireTap, htap, hdeadline, reached_self, if_true, publishTap]
    refine ⟨_, exec_eq _ s, ?_, fun hfence haccess hhanded => ?_⟩
    · simp only [nextState, withGestures, hexpire]
      rfl
    · simp only [nextState, withGestures, hexpire]
      exact handEvents_of_idle (s := { s with gestures := { s.gestures with tap := none } }) hfence haccess hhanded _
  · have hexpire : expireLock s.clock s.gestures =
        ({ s.gestures with service := none }, [endEvent v .completed s.clock]) := by
      simp only [expireLock, hservice, hlock, reached_self, if_true]
    refine ⟨_, exec_eq _ s, ?_, fun hfence haccess hhanded => ?_⟩
    · simp only [nextState, withGestures, hexpire]
      rfl
    · simp only [nextState, withGestures, hexpire]
      exact handEvents_of_idle (s := { s with gestures := { s.gestures with service := none } }) hfence haccess hhanded _

/-! ### Malformed pen records (R93) -/

theorem isMalformed_iff (r : PenRecord) :
    isMalformed r = true ↔ r.length ≠ .exact ∨ r.checkOk = false ∨ r.tool = .other ∨ r.tiltX < -90 ∨ 90 < r.tiltX ∨
      r.tiltY < -90 ∨ 90 < r.tiltY := by
  simp [isMalformed, or_assoc]

theorem bump16_eq (n : Nat) : bump16 n = oneMore n := rfl

/-- Settles O39. -/
theorem malformedRecordsCounted : Obligations.MalformedRecordsCounted := by
  intro r s bad heard
  refine ⟨fun hbad hheard => ?_, fun hdeaf => ?_⟩
  · have hlive : (isRunning s && s.pen.isOpen) = true := by
      rw [Bool.and_eq_true, isRunning_iff]
      exact hheard
    rw [exec_next_iff]
    simp only [nextState, takePenRecord, countMalformed, (isMalformed_iff r).2 hbad, hlive, if_true]
    rfl
  · have hidle : (isRunning s && s.pen.isOpen) = false := by
      rw [Bool.eq_false_iff, ne_eq, Bool.and_eq_true, isRunning_iff]
      exact hdeaf
    rw [exec_next_iff]
    simp only [nextState, takePenRecord, countMalformed, hidle, Bool.false_eq_true, if_false, ite_self]

/-! ### RUN cleared (R166) -/

theorem ne_halted_of_running {s : State} (h : s.regs.state = .running ∨ s.regs.state = .doze) :
    s.regs.state ≠ .halted := by
  rcases h with h | h <;> rw [h] <;> decide

/-- Settles O45. -/
theorem runClearBeginsStop : Obligations.RunClearBeginsStop := by
  intro s hrun hset hstopping hwork
  have hlive : isRunning s = true := (isRunning_iff s).2 hrun
  have hcommand : (if s.command.inFlight.isSome then { s.command with rescan := false }
      else match s.command.pass with
        | some p => { s.command with rescan := false, scan := scanAfter { s.command with rescan := false } p, pass := none }
        | none => { s.command with rescan := false }) = { s.command with rescan := false } := by
    rcases hwork with hflight | hpass
    · rw [if_pos hflight]
    · rw [hpass, ite_self]
  rw [exec_next_iff]
  simp only [nextState, unlessHalted_eq, if_neg (ne_halted_of_running hrun), clearRun, hset, hlive, hstopping,
    Bool.not_false, Bool.and_true, if_true]
  exact congrArg (fun c => { beginStop { s with regs := { s.regs with run := false } } with command := c }) hcommand

/-! ### The notice (R170) -/

/-- Settles O48. -/
theorem noticeTable : Obligations.NoticeTable := by
  refine ⟨fun s hidle => ?_, fun s hrun hstopping hpass hopen => ?_, fun s hrun hstopping hbusy => ?_⟩
  · have hignored : (!isRunning s || s.regs.stopping) = true := by
      rw [Bool.or_eq_true, Bool.not_eq_true', isRunning_eq_false_iff]
      exact or_assoc.2 hidle
    rw [exec_next_iff]
    exact if_pos hignored
  · rw [exec_next_iff]
    simp only [nextState, takeNotice, (isRunning_iff s).2 hrun, hstopping, hpass, hopen, Bool.not_true, Bool.or_self,
      Option.isSome_none, Bool.false_eq_true, if_false]
    rfl
  · have hwaits : (s.command.pass.isSome || s.regs.fenced.commands) = true := Bool.or_eq_true_iff.2 hbusy
    rw [exec_next_iff]
    simp only [nextState, takeNotice, (isRunning_iff s).2 hrun, hstopping, hwaits, Bool.not_true, Bool.or_self,
      Bool.false_eq_true, if_false, if_true]
    rfl

/-! ### FAULT cleared (R197) -/

theorem and_fault_ne_zero (x : BitVec 7) : (x &&& causeBit .fault != 0#7) = x.getLsbD 6 := by
  revert x
  decide

theorem hasCause_fault (r : Registers) : hasCause r .fault = r.causes.getLsbD 6 := and_fault_ne_zero r.causes

theorem clear_fault_of_clear (x : BitVec 7) : x.getLsbD 6 = false → x &&& ~~~causeBit .fault = x := by
  revert x
  decide

/-- The reopening of the streams with no rescan asked for. -/
theorem reopen_of_clear {s : State} (h : s.command.rescan = false) :
    reopen s = { s with regs := { s.regs with fenced := noFences }, fault := rearm s.fault } := by
  simp only [reopen]
  split
  · exact takeRescan_of_clear h
  · rfl

theorem clearCauses_of_fault {ones : BitVec 7} {s : State} (h : (s.regs.causes.getLsbD 6 && ones.getLsbD 6) = true) :
    clearCauses ones s = reopen { s with regs := { s.regs with causes := s.regs.causes &&& ~~~ones } } := by
  simp only [clearCauses, hasCause_fault, and_fault_ne_zero, h, if_true]

theorem clearCauses_of_not_fault {ones : BitVec 7} {s : State}
    (h : (s.regs.causes.getLsbD 6 && ones.getLsbD 6) = false) :
    clearCauses ones s = { s with regs := { s.regs with causes := s.regs.causes &&& ~~~ones } } := by
  simp only [clearCauses, hasCause_fault, and_fault_ne_zero, h, Bool.false_eq_true, if_false]

theorem nextState_faultClear {s : State} (h : s.regs.state ≠ .halted) :
    nextState .faultClear s = clearCauses (causeBit .fault) s := if_neg h

/-- Settles O47. -/
theorem faultClearReopensStreams : Obligations.FaultClearReopensStreams := by
  have faulty {s : State} (h : s.regs.causes.getLsbD 6 = true) :
      (s.regs.causes.getLsbD 6 && (causeBit .fault).getLsbD 6) = true := by rw [h]; rfl
  refine ⟨fun s hlive hfault hrescan => ?_, fun s hrun hstopping hfault hrescan hfenced hpass => ?_, fun s hfault => ?_⟩
  · rw [exec_next_iff, nextState_faultClear hlive, clearCauses_of_fault (faulty hfault), reopen_of_clear (by exact hrescan)]
    rfl
  · have hallowed : ∀ t : State,
        t.regs = { s.regs with causes := s.regs.causes &&& ~~~causeBit .fault, fenced := noFences } →
        passAllowed t = true := by
      intro t ht
      have hlive : isRunning t = true := (isRunning_iff t).2 (by rw [ht]; exact hrun)
      simp [passAllowed, hlive, ht, hstopping, noFences]
    have hreopen : clearCauses (causeBit .fault) s = takeRescan { s with
        regs := { s.regs with causes := s.regs.causes &&& ~~~causeBit .fault, fenced := noFences }
        fault := rearm s.fault } := by
      rw [clearCauses_of_fault (faulty hfault), reopen, if_pos (by simp [hfenced, hpass])]
    have htaken := hreopen.trans (if_pos (by simp [hrescan, hallowed]))
    refine ⟨_, exec_eq _ s, ?_, ?_, ?_⟩ <;> rw [nextState_faultClear (ne_halted_of_running hrun), htaken] <;> rfl
  · have hclear : clearCauses (causeBit .fault) s = s := by
      rw [clearCauses_of_not_fault (by rw [hfault]; rfl), clear_fault_of_clear _ hfault]
    rw [exec_next_iff]
    simp only [nextState, unlessHalted_eq, hclear, ite_self]

/-! ### Register writes (R160 to R162, R185) -/

theorem takeRescan_withCauses (s : State) (x : BitVec 7) :
    takeRescan { s with regs := { s.regs with causes := x } } =
      { takeRescan s with regs := { (takeRescan s).regs with causes := x } } := by
  unfold takeRescan
  rw [show passAllowed { s with regs := { s.regs with causes := x } } = passAllowed s from rfl]
  by_cases h : (s.command.rescan && passAllowed s) = true
  · simp only [if_pos h]
    rfl
  · simp only [if_neg h]

/-- Reopening does not read the causes. -/
theorem reopen_withCauses (s : State) (x : BitVec 7) :
    reopen { s with regs := { s.regs with causes := x } } =
      { reopen s with regs := { (reopen s).regs with causes := x } } := by
  simp only [reopen]
  by_cases h : (s.regs.fenced.commands && s.command.pass.isNone) = true
  · simp only [if_pos h]
    exact takeRescan_withCauses { s with regs := { s.regs with fenced := noFences }, fault := rearm s.fault } x
  · simp only [if_neg h]

theorem setRun_ne_halted {s : State} (h : s.regs.state ≠ .halted) : (setRun s).regs.state ≠ .halted := by
  by_cases hoff : s.regs.state = .off
  · unfold setRun tryStart
    (repeat' split) <;> first | exact h | (intro hhalted; cases hhalted)
  · rw [setRun_runState hoff]
    exact h

theorem attn_iff (s : State) : attn s = true ↔
    s.regs.state = .halted ∨ ∃ i, i < 7 ∧ s.regs.causes.getLsbD i = true ∧ s.regs.mask.getLsbD i = true := by
  have hbits : (s.regs.causes &&& s.regs.mask != 0#7) = true ↔
      ∃ i, i < 7 ∧ s.regs.causes.getLsbD i = true ∧ s.regs.mask.getLsbD i = true := by
    generalize s.regs.causes = x
    generalize s.regs.mask = y
    rw [bne_iff_ne, ne_eq, BitVec.eq_of_getLsbD_eq_iff]
    simp
  rw [attn, Bool.or_eq_true, hbits]
  simp

theorem clearRun_ne_halted {s : State} (h : s.regs.state ≠ .halted) : (clearRun s).regs.state ≠ .halted := by
  rw [clearRun_runState]
  exact h

theorem getLsbD_causeField (v : BitVec 32) : (causeField v).getLsbD 6 = v.getLsbD 14 := by
  simp [causeField]

/-- A write to CONTROL is its three parts in order (R161). -/
theorem writeControl_eq (v : BitVec 32) (s : State) :
    writeControl v s =
      let b := writeMask (v.extractLsb' 8 7) (if v.getLsbD 0 then setRun s else clearRun s)
      if v.getLsbD 1 then takeNotice b else b := rfl

/-- Settles O46. -/
theorem maskAndCauseWrites : Obligations.MaskAndCauseWrites := by
  refine ⟨fun s m hlive => ?_, fun s v hlive => ⟨fun hclear => ?_, fun hfault => ?_⟩,
    fun s v hlive => ⟨?_, ?_⟩, fun s offset v hignored => ?_, fun s m v hhalted => ⟨?_, ?_⟩, attn_iff⟩
  · rw [exec_next_iff]
    exact if_neg hlive
  · rw [exec_next_iff]
    exact (if_neg hlive).trans (clearCauses_of_not_fault (by rw [getLsbD_causeField, hclear]))
  · have hset : s.regs.causes.getLsbD 6 = true := (Bool.and_eq_true_iff.1 hfault).1
    refine ⟨_, exec_eq _ s, ?_⟩
    rw [exec_next_iff, nextState_faultClear hlive, clearCauses_of_fault (by rw [hset]; rfl), reopen_withCauses]
    refine (if_neg hlive).trans ((clearCauses_of_fault (by rw [getLsbD_causeField, hfault])).trans ?_)
    exact reopen_withCauses s _
  · have run : exec (if v.getLsbD 0 then .runSet else .runClear) s =
        .next (if v.getLsbD 0 then setRun s else clearRun s) := by
      rw [exec_next_iff]
      cases v.getLsbD 0 with
      | true => exact if_neg hlive
      | false => exact if_neg hlive
    have live : (if v.getLsbD 0 then setRun s else clearRun s).regs.state ≠ .halted :=
      ite_keeps (P := fun t => t.regs.state ≠ .halted) (setRun_ne_halted hlive) (clearRun_ne_halted hlive)
    refine ⟨_, _, run, exec_eq _ _, ?_⟩
    have masked : nextState (.attnMaskWrite (v.extractLsb' 8 7)) (if v.getLsbD 0 then setRun s else clearRun s) =
        writeMask (v.extractLsb' 8 7) (if v.getLsbD 0 then setRun s else clearRun s) := if_neg live
    have written : nextState (.registerWrite 0x04 v) s = writeControl v s := if_neg hlive
    rw [masked, exec_eq, exec_eq, written, writeControl_eq]
    cases v.getLsbD 1 <;> rfl
  · rw [exec_eq, exec_eq]
    rfl
  · rw [exec_next_iff]
    rcases hignored with hhalted | hoffset
    · exact if_pos hhalted
    · refine unlessHalted_keeps (P := fun t => t = s) rfl ?_
      have apart (x : BitVec 8) (hx : x ∈ [0x04#8, 0x08#8, 0x0C#8, 0x10#8]) : offset.toNat ≠ x.toNat :=
        fun h => hoffset (BitVec.eq_of_toNat_eq h ▸ hx)
      unfold writeRegister
      split
      case h_1 h => exact absurd h (apart 0x04 (by decide))
      case h_2 h => exact absurd h (apart 0x08 (by decide))
      case h_3 h => exact absurd h (apart 0x0C (by decide))
      case h_4 h => exact absurd h (apart 0x10 (by decide))
      case h_5 => rfl
  · rw [exec_next_iff]
    exact if_pos hhalted
  · rw [exec_next_iff]
    exact if_pos hhalted

end Sys2Proof.Machine
end

section
/-! Pen samples and the pen's leaving of range (R39, R94 to R106). -/

namespace Sys2Proof.Machine

/-! ### The pressure curve (R39) -/

/-- Between knots in order the curve is the segment of the two beside the pressure. -/
theorem curveRuns (q : PenParams) : CurveRuns q := by
  unfold CurveRuns
  intro knots hsorted i p a b ha hb hle hlt
  simp only [knots, List.pairwise_cons, List.mem_cons, List.not_mem_nil, or_false, forall_eq_or_imp, forall_eq] at hsorted
  match i with
  | 0 | 1 | 2 | 3 =>
    cases ha
    cases hb
    simp only [pressureCurve, curveSegment]
    (repeat' split) <;> first | rfl | omega
  | n + 4 => simp [knots] at hb

/-! ### A sample in range (R95, R96, R100 to R103) -/

theorem toolOf_eq (c : ToolCode) : toolOf c = if c = .eraser then .eraser else .pen := by cases c <;> rfl

theorem limitTo_ne_iff (v : Int) : limitTo (-60) 60 v ≠ v ↔ v < -60 ∨ 60 < v := by
  unfold limitTo
  omega

/-- CLAMPED of a sample: the mapping limited it, or a tilt was beyond 60 degrees (R102). -/
theorem sampleClamped_eq (m : Bool) (x y : Int) :
    (m || decide (limitTo (-60) 60 x ≠ x) || decide (limitTo (-60) 60 y ≠ y)) =
      (m || decide (x < -60 ∨ 60 < x ∨ y < -60 ∨ 60 < y)) := by
  simp only [limitTo_ne_iff, Bool.or_assoc, ← Bool.decide_or, or_assoc]

/-- The state by the tip thresholds, with a tool change in TOUCH giving HOVER (R95, R96, R100). -/
def nextPenState (q : PenParams) (tool : Tool) (c : PenChannel) (pressure : Nat) : PenState :=
  if c.state = .touch then (if tool ≠ c.tool ∨ pressure < q.tipOff then .hover else .touch)
  else if q.tipOn ≤ pressure then .touch else .hover

theorem tipTransition_eq (q : PenParams) (tool : Tool) (c : PenChannel) (pressure : Nat) :
    tipTransition q c.state (c.state == .touch && tool != c.tool) pressure =
      (nextPenState q tool c pressure, nextPenState q tool c pressure == .touch && !(c.state == .touch),
        c.state == .touch && !(c.state == .touch && tool != c.tool) && nextPenState q tool c pressure == .hover) := by
  by_cases hpressed : q.tipOn ≤ pressure <;> by_cases hreleased : pressure < q.tipOff <;>
    by_cases htool : tool = c.tool <;> cases hstate : c.state <;>
    simp [tipTransition, nextPenState, hstate, hpressed, hreleased, htool]

/-- The channel after a sample in range. -/
theorem takeInRange_channel (q : PenParams) (bank : BankId) (r : PenRecord) (t : Time) (c : PenChannel) :
    (takeInRange q bank r t c).channel =
      let tool : Tool := if r.tool = .eraser then .eraser else .pen
      let m := mapPoint q.mapping { x := r.x.toNat, y := r.y.toNat }
      { c with
        state := nextPenState q tool c r.pressure.toNat
        guardOn := true
        count := if c.state = .away then c.count + 1 else c.count
        timeout := some (t + BitVec.ofNat 48 q.timeout)
        linger := none
        tool := tool
        button1 := r.button1
        button2 := r.button2
        last := some {
          pos := m.1, bank := bank, tiltX := max (-60) (min 60 r.tiltX)
          tiltY := max (-60) (min 60 r.tiltY), hover := r.hover, tool := tool, button1 := r.button1
          button2 := r.button2, time := t
          clamped := m.2 || decide (r.tiltX < -60 ∨ 60 < r.tiltX ∨ r.tiltY < -60 ∨ 60 < r.tiltY) }
        lastPos := some (m.1, bank) } := by
  simp only [takeInRange, toolOf_eq, tipTransition_eq, sampleClamped_eq]
  rfl

/-- The samples handed over of a sample in range. -/
theorem takeInRange_samples (r : PenRecord) (s : State) :
    (takeInRange (penBank s).pen s.screen.bankInForce r s.clock s.pen).samples =
      takenSamples s r (takeInRange (penBank s).pen s.screen.bankInForce r s.clock s.pen).channel.state := by
  rw [takeInRange_channel]
  simp only [takeInRange, takenSamples, toolOf_eq, tipTransition_eq, sampleClamped_eq, penBank, noPenFlags]
  rfl

theorem buttonEdges_eq (c : PenChannel) (b1 b2 : Bool) (t : Time) : buttonEdges c b1 b2 t = buttonChanges c b1 b2 t := by
  simp only [buttonEdges, buttonChanges, eq_comm (a := b1), eq_comm (a := b2)]
  rfl

theorem handPen_of_not_running {s : State} (h : s.regs.state ≠ .running) (p : PenStep) :
    handPen s p = { s with pen := p.channel } := if_neg h

/-- What a channel's step hands over in RUNNING. -/
theorem handPen_outputs {s : State} (h : s.regs.state = .running) (p : PenStep) :
    (handPen s p).penOut = (handSamples s p.samples).penOut ∧ (handPen s p).events = (handEvents s p.events).events := by
  rw [handPen_of_running h]
  exact ⟨rfl, rfl⟩

theorem handPen_eq_self (s : State) (p : PenStep) :
    handPen s p = { s with pen := p.channel, penOut := (handPen s p).penOut, events := (handPen s p).events } := by
  unfold handPen
  split <;> rfl

theorem nextState_penRecord {r : PenRecord} {s : State} (hsound : isMalformed r = false)
    (hrun : s.regs.state = .running ∨ s.regs.state = .doze) (hopen : s.pen.isOpen = true) :
    nextState (.penRecord r) s = takeRecord r s := by
  simp [nextState, takePenRecord, hsound, (isRunning_iff s).2 hrun, hopen]

/-- Settles O40: in RUNNING the sample is handed over, in DOZE it is a wake cause. -/
theorem inRangeSampleTaken : Obligations.InRangeSampleTaken := by
  refine ⟨curveRuns, ?_⟩
  intro r s hrun hopen hsound hrange q tool m wakes
  have hsample : takeSample (penBank s).pen s.screen.bankInForce r s.clock s.pen =
      takeInRange (penBank s).pen s.screen.bankInForce r s.clock s.pen := if_pos hrange
  refine ⟨takeRecord r s, by rw [exec_next_iff, nextState_penRecord hsound hrun hopen], ?_⟩
  have channel := takeInRange_channel (penBank s).pen s.screen.bankInForce r s.clock s.pen
  have samples := takeInRange_samples r s
  have events : (takeInRange (penBank s).pen s.screen.bankInForce r s.clock s.pen).events =
      buttonChanges s.pen r.button1 r.button2 s.clock := buttonEdges_eq _ _ _ _
  rcases hrun with hrunning | hdoze
  · have hawake : s.regs.state ≠ .doze := by rw [hrunning]; decide
    have htaken : takeRecord r s = handPen s (takeInRange (penBank s).pen s.screen.bankInForce r s.clock s.pen) := by
      rw [takeRecord, hsample, if_neg fun h => hawake h.1]
    obtain ⟨hpenOut, hevents⟩ :=
      handPen_outputs hrunning (takeInRange (penBank s).pen s.screen.bankInForce r s.clock s.pen)
    rw [htaken]
    refine ⟨?_, fun _ => ⟨?_, ?_⟩, fun h => absurd h hawake, fun h => absurd h.1 hawake,
      fun _ => ⟨handPen_wakeReported .., handPen_regs .., fun h => absurd h hawake⟩, ?_⟩
    · rw [handPen_eq_self]
    · rw [hpenOut, samples, handPen_pen]
    · rw [hevents, events]
    · rw [handPen_pen, channel]
      rfl
  · have hidle : s.regs.state ≠ .running := by rw [hdoze]; decide
    have htaken : takeRecord r s = reportWake 2 0 s.clock
        { s with pen := (takeInRange (penBank s).pen s.screen.bankInForce r s.clock s.pen).channel } := by
      rw [takeRecord, hsample, if_pos ⟨hdoze, hrange⟩, handPen_of_not_running hidle]
    have hpen : (takeRecord r s).pen = (takeInRange (penBank s).pen s.screen.bankInForce r s.clock s.pen).channel := by
      rw [htaken, reportWake_pen]
    refine ⟨?_, fun h => absurd h hidle, fun _ => ?_, fun hwakes => ?_, fun hsilent => ?_, ?_⟩
    · rw [htaken]
      unfold reportWake
      split <;> rfl
    · rw [htaken, reportWake_penOut]
    · rw [htaken, reportWake, if_neg (by simp [hwakes.2])]
      exact ⟨rfl, rfl, rfl⟩
    · have hreported : s.wakeReported = true := by
        rw [← Bool.not_eq_false]
        exact fun h => hsilent ⟨hdoze, h⟩
      rw [htaken, reportWake, if_pos hreported]
      exact ⟨rfl, rfl, fun _ => rfl⟩
    · rw [hpen, channel]
      rfl

/-! ### Leaving range (R97 to R99) -/

theorem leaveRange_channel {q : PenParams} (h : q.linger ≤ 5000000) (t : Time) (timedOut : Bool) (c : PenChannel) :
    (leaveRange q t t timedOut c).channel = lingering c t q.linger := by
  have hreached := reached_later (n := q.linger) (by omega) t
  simp only [leaveRange, expireLinger, hreached, lingering, decide_eq_true_eq]
  rfl

theorem repeatSample_eq (c : PenChannel) (t : Time) (timedOut : Bool) :
    repeatSample c t timedOut (!timedOut) = leavingSamples c t timedOut := by
  simp only [repeatSample, leavingSamples, noPenFlags]
  cases c.last <;> rfl

/-- What a leaving pen hands over, by a channel that differs in its counts alone. -/
theorem leavingHandedOver_of {s : State} {q : PenParams} {c : PenChannel} (timedOut : Bool)
    (hsamples : leavingSamples c s.clock timedOut = leavingSamples s.pen s.clock timedOut)
    (hbuttons : buttonChanges c false false s.clock = buttonChanges s.pen false false s.clock) :
    LeavingHandedOver s (handPen s (leaveRange q s.clock s.clock timedOut c)) timedOut := by
  constructor
  · intro hrunning
    obtain ⟨hpenOut, hevents⟩ := handPen_outputs hrunning (leaveRange q s.clock s.clock timedOut c)
    rw [hpenOut, hevents, ← hsamples, ← hbuttons, ← repeatSample_eq, ← buttonEdges_eq]
    exact ⟨rfl, rfl⟩
  · intro hidle
    rw [handPen_of_not_running hidle]
    exact ⟨rfl, rfl⟩

theorem runEvents_stays {p : EventPublisher} (h : p.handed = [] ∨ p.access ≠ .none) (fenced : Bool) (now : Time) :
    runEvents fenced now p.handed p = p := by
  obtain ⟨position, queue, loss, lost, coalesced, handed, access⟩ := p
  cases handed with
  | nil => rfl
  | cons x xs => exact if_neg (h.resolve_left (List.cons_ne_nil x xs))

theorem runSamples_stays {p : PenPublisher} (h : p.handed = [] ∨ p.access ≠ .none) (fenced : Bool) (now : Time) :
    runSamples fenced now p.handed p = p := by
  obtain ⟨index, pending, handed, access⟩ := p
  cases handed with
  | nil => rfl
  | cons x xs => exact if_neg (h.resolve_left (List.cons_ne_nil x xs))

theorem handEvents_nil {s : State} (h : s.events.handed = [] ∨ s.events.access ≠ .none) :
    (handEvents s []).events = s.events := by
  simp only [handEvents, handItems, List.map_nil, List.append_nil, runEvents_stays h]

theorem handSamples_nil {s : State} (h : s.penOut.handed = [] ∨ s.penOut.access ≠ .none) :
    (handSamples s []).penOut = s.penOut := by
  simp only [handSamples, List.append_nil, runSamples_stays h]

/-- A sample out of range finds no pen in HOVER or TOUCH (R97). -/
theorem takeRecord_of_out {r : PenRecord} {s : State} (hrange : r.inRange = false)
    (hpen : s.pen.state = .away ∨ s.pen.state = .linger) :
    takeRecord r s = handPen s { channel := s.pen, samples := [], events := [] } := by
  have hout : ¬ penInRange s.pen = true := by
    rw [penInRange_iff]
    rcases hpen with h | h <;> simp [h]
  rw [takeRecord, takeSample, if_neg (by simp [hrange]), if_neg hout, if_neg (by simp [hrange])]

/-- Settles O41. -/
theorem penLeavesRange : Obligations.PenLeavesRange := by
  refine ⟨?_, fun r s hsound hrange hpen => ?_, ?_, fun s hdue => ?_⟩
  · intro r s linger hrun hopen hsound hrange hpen hlinger
    have htaken : takeRecord r s = handPen s (leaveRange (penBank s).pen s.clock s.clock false s.pen) := by
      rw [takeRecord, takeSample, if_neg (by simp [hrange]), if_pos ((penInRange_iff _).2 hpen),
        if_neg (by simp [hrange])]
    refine ⟨takeRecord r s, by rw [exec_next_iff, nextState_penRecord hsound hrun hopen], ?_, ?_, ?_⟩
    · rw [htaken, handPen_eq_self]
    · rw [htaken, handPen_pen]
      exact leaveRange_channel hlinger s.clock false s.pen
    · rw [htaken]
      exact leavingHandedOver_of false rfl rfl
  · refine ⟨_, exec_eq _ s, ?_⟩
    by_cases heard : isRunning s = true ∧ s.pen.isOpen = true
    · rw [nextState_penRecord hsound ((isRunning_iff s).1 heard.1) heard.2, takeRecord_of_out hrange hpen]
      refine ⟨by rw [handPen_eq_self], fun h => ?_, fun h => ?_⟩
      · by_cases hrunning : s.regs.state = .running
        · rw [(handPen_outputs hrunning _).1, handSamples_nil h]
        · rw [handPen_of_not_running hrunning]
      · by_cases hrunning : s.regs.state = .running
        · rw [(handPen_outputs hrunning _).2, handEvents_nil h]
        · rw [handPen_of_not_running hrunning]
    · have hdeaf : nextState (.penRecord r) s = s := by
        simp only [nextState, takePenRecord, hsound, Bool.false_eq_true, if_false]
        exact if_neg (by rwa [Bool.and_eq_true])
      rw [hdeaf]
      exact ⟨rfl, fun _ => rfl, fun _ => rfl⟩
  · intro s linger hdue hlinger
    have hexpired : nextState .penTimeoutExpiry s = expirePenTimeout s := by
      simp only [nextState, isDue, hdue, reached_self, if_true]
    refine ⟨expirePenTimeout s, by rw [exec_next_iff, hexpired], ?_, ?_, ?_⟩
    · rw [expirePenTimeout, handPen_eq_self]
    · rw [expirePenTimeout, handPen_pen, leaveRange_channel (by exact hlinger)]
      by_cases hzero : linger = 0
      · simp only [lingering, if_pos hzero]
        exact if_pos hzero
      · simp only [lingering, if_neg hzero]
        exact if_neg hzero
    · exact leavingHandedOver_of true rfl rfl
  · rw [exec_next_iff]
    simp only [nextState, expireLinger, hdue, reached_self, if_true]

end Sys2Proof.Machine
end

section
/-! Records in memory (section 8.4, R167): a record's bytes are its fields in order, so its writes are the layout
of the fields, the byte at its start last. -/

namespace Sys2Proof.Machine

/-! ### Fields and bytes -/

/-- A field's bytes. -/
def fieldBytes (q : Nat × Nat × Nat) : List Byte := leBytes q.2.1 q.2.2

/-- Fields that follow each other without a gap from an offset on. -/
def Contiguous : Nat → List (Nat × Nat × Nat) → Prop
  | _, [] => True
  | k, q :: qs => q.1 = k ∧ Contiguous (k + q.2.1) qs

theorem addressOf_eq (r : Registers) (offset : Nat) : addressOf r offset = hostAddress r offset := rfl

@[simp] theorem leBytes_length (n v : Nat) : (leBytes n v).length = n := by simp [leBytes]

theorem leBytes_one (n : Nat) : leBytes 1 n = [byte1 n] := by
  simp [leBytes, byte1]

theorem leBytes_zero (n : Nat) : leBytes n 0 = List.replicate n 0 := by
  simp [leBytes, List.map_const']

/-- The bytes of a number are those of its rest at their limit. -/
theorem leBytes_mod (n v : Nat) : leBytes n (v % 256 ^ n) = leBytes n v := by
  refine List.map_congr_left fun i hi => BitVec.eq_of_toNat_eq ?_
  have hlt : i < n := List.mem_range.1 hi
  have hsplit : 256 ^ n = 256 ^ i * 256 ^ (n - i) := by rw [← pow_add, Nat.add_sub_cancel' hlt.le]
  have hdvd : 2 ^ 8 ∣ 256 ^ (n - i) := dvd_pow_self 256 (Nat.sub_ne_zero_of_lt hlt)
  rw [BitVec.toNat_ofNat, BitVec.toNat_ofNat, hsplit, Nat.mod_mul_right_div_self, Nat.mod_mod_of_dvd _ hdvd]

theorem stampBytes_eq (t : Time) : stampBytes t = leBytes 4 t.toNat := leBytes_mod 4 t.toNat

theorem byte1_toNat (x : Byte) : byte1 x.toNat = x := BitVec.ofNat_toNat 8 x |>.trans (BitVec.setWidth_eq x)

theorem signed2_eq (v : Int) : signed2 v = leBytes 2 (signedField 2 v) := rfl

theorem signed1_eq (v : Int) : [signed1 v] = leBytes 1 (signedField 1 v) := by
  rw [leBytes_one]
  rfl

theorem cellsAt_leBytes (r : Registers) (offset n v : Nat) :
    cellsAt r offset (leBytes n v) =
      (List.range n).map fun i => (addressOf r (offset + i), BitVec.ofNat 8 (v / 256 ^ i)) := by
  apply List.ext_getElem
  · simp [cellsAt]
  · intro i h1 h2
    simp [cellsAt, leBytes, addressOf_eq]

/-- Fields without gaps are laid out as their bytes in a row. -/
theorem layout_of_contiguous (r : Registers) (start k : Nat) (fields : List (Nat × Nat × Nat))
    (h : Contiguous k fields) : layout r start fields = cellsAt r (start + k) (fields.flatMap fieldBytes) := by
  induction fields generalizing k with
  | nil => rfl
  | cons q qs ih =>
    obtain ⟨hq, hqs⟩ := h
    rw [List.flatMap_cons, cellsAt_append, fieldBytes, cellsAt_leBytes, leBytes_length, Nat.add_assoc,
      ← ih (k + q.2.1) hqs, layout, List.flatMap_cons, hq]
    rfl

/-! ### A record's writes -/

@[simp] theorem cellsAt_length (r : Registers) (offset : Nat) (l : List Byte) : (cellsAt r offset l).length = l.length := by
  simp [cellsAt]

theorem cellsAt_cons (r : Registers) (offset : Nat) (b : Byte) (l : List Byte) :
    cellsAt r offset (b :: l) = (hostAddress r offset, b) :: cellsAt r (offset + 1) l := by
  rw [← List.singleton_append, cellsAt_append]
  rfl

theorem stateLast_perm (cells : List Host.Cell) : (stateLast cells).Perm cells := by
  cases cells with
  | nil => exact .nil
  | cons c cs => exact List.perm_append_comm (l₁ := cs) (l₂ := [c])

theorem stateLast_getLast {c : Host.Cell} (cs : List Host.Cell) : (stateLast (c :: cs)).getLast? = some c := by
  simp [stateLast]

/-- A record whose bytes are its fields is written as they are laid out, the byte at its start last. -/
theorem recordWrites_of_bytes {r : Registers} {start state : Nat} {fields : List (Nat × Nat × Nat)} {bytes : List Byte}
    (hfields : Contiguous 0 fields) (hbytes : byte1 state :: bytes = fields.flatMap fieldBytes)
    (hlength : bytes.length < 16384) :
    RecordWrites r start fields state (stateLast (cellsAt r start (byte1 state :: bytes))) := by
  have hlayout : layout r start fields = cellsAt r start (byte1 state :: bytes) := by
    rw [layout_of_contiguous r start 0 fields hfields, hbytes]
    rfl
  refine ⟨?_, ?_, ?_⟩
  · rw [hlayout]
    exact stateLast_perm _
  · refine ((stateLast_perm _).map _).nodup_iff.2 (cellsAt_nodup r start _ ?_)
    simpa using hlength
  · rw [cellsAt_cons, stateLast_getLast]
    rfl

theorem writtenThereAlone (before cells : List Host.Cell) : WrittenThereAlone before (writeBytes before cells) cells :=
  ⟨rfl, fun h => readByte_writeBytes_mem cells before h, fun a h => readByte_writeBytes_other cells before a h⟩

/-! ### Codes and flags -/

theorem flagBits_eq (l : List Bool) : flagBits l = flagField l := by
  induction l with
  | nil => rfl
  | cons b l ih => rw [flagBits, ih]; rfl

theorem bankCode_eq (k : BankId) : bankCode k = bankField k := by cases k <;> rfl

theorem postureCode_eq (p : Posture) : postureCode p = codeOf [.laptop, .stand, .tent, .tablet, .closed] p := by
  cases p <;> rfl

theorem handCode_eq (h : Hand) : handCode h = codeOf [.right, .left] h := by cases h <;> rfl

theorem runStateCode_eq (r : RunState) : runStateCode r = codeOf [.off, .running, .doze, .halted] r := by cases r <;> rfl

theorem surfaceStateCode_eq (k : SurfaceState) : surfaceStateCode k = codeOf [.inactive, .settling, .active, .watch] k := by
  cases k <;> rfl

theorem penStateCode_eq (k : PenState) : penStateCode k = codeOf [.away, .hover, .touch, .linger] k := by cases k <;> rfl

theorem toolCode_eq (k : Tool) : toolCode k = codeOf [.pen, .eraser] k := by cases k <;> rfl

theorem classCode_eq (k : Class) : classCode k = codeOf [.undecided, .finger, .palm, .ignored] k := by cases k <;> rfl

theorem reasonCode_eq (k : Reason) :
    reasonCode k = codeOf [.none, .size, .flat, .edgeGrow, .neighbour, .typing, .penGuard, .zone, .suspended] k := by
  cases k <;> rfl

theorem eventKindCode_eq (k : EventKind) : eventKindCode k =
    1 + codeOf [.gestureBegin, .gestureStep, .gestureEnd, .tap, .penButton, .postureChanged, .wake] k := by
  cases k <;> rfl

theorem streamCode_eq (k : Stream) : streamCode k = codeOf [.padFrames, .screenFrames, .pen, .events, .commands] k := by
  cases k <;> rfl

/-! ### The fault record, event records, pen slots, the snapshot (Tables 8-6, 8-7, 8-8, 8-11) -/

theorem faultBytes_eq (x : StoredFailure) (later : Nat) :
    faultBytes x later = (faultFields x later).flatMap fieldBytes := by
  simp only [faultFields, List.flatMap_cons, List.flatMap_nil, fieldBytes, leBytes_one, leBytes_zero, ← streamCode_eq]
  simp only [faultBytes, stampBytes_eq, flagField, List.foldr_cons, List.foldr_nil, List.append_assoc, List.append_nil,
    List.cons_append, List.nil_append, Nat.mul_zero, Nat.add_zero]
  rfl

theorem eventBytes_eq (e : Event) (loss : Bool) : eventBytes e loss = (eventFields e loss).flatMap fieldBytes := by
  simp only [eventFields, List.flatMap_cons, List.flatMap_nil, fieldBytes, leBytes_one, leBytes_zero, ← eventKindCode_eq]
  simp only [eventBytes, stampBytes_eq, signed2_eq, flagField, List.foldr_cons, List.foldr_nil, List.append_assoc,
    List.append_nil, List.cons_append, List.nil_append, Nat.mul_zero, Nat.add_zero]
  rfl

theorem penSlotBytes_eq (q : PenSample) (merged : Nat) :
    penSlotBytes q merged = (penFields q merged).flatMap fieldBytes := by
  simp only [penFields, List.flatMap_cons, List.flatMap_nil, fieldBytes, leBytes_one, leBytes_zero, ← penStateCode_eq,
    ← toolCode_eq, ← flagBits_eq, ← bankCode_eq]
  simp only [penSlotBytes, penFlagByte, stampBytes_eq, signed2_eq, byte1_toNat, List.append_assoc, List.append_nil,
    List.cons_append, List.nil_append]
  rfl

theorem headerBytes_eq (count : Nat) (f : PendingFrame) :
    headerBytes count f = (headerFields count f).flatMap fieldBytes := by
  simp only [headerFields, List.flatMap_cons, List.flatMap_nil, fieldBytes, leBytes_one, leBytes_zero, ← flagBits_eq,
    ← bankCode_eq]
  simp only [headerBytes, frameFlagByte, stampBytes_eq, List.append_nil, List.cons_append, List.nil_append]
  rfl

theorem entryBytes_eq (k : Nat) (e : Entry) : entryBytes e = (entryFields k e).flatMap fieldBytes := by
  simp only [entryFields, List.flatMap_cons, List.flatMap_nil, fieldBytes, leBytes_one, leBytes_zero, ← flagBits_eq,
    ← classCode_eq, ← reasonCode_eq]
  simp only [entryBytes, contactFlagByte, signed2_eq, List.append_assoc, List.append_nil, List.cons_append,
    List.nil_append]
  rfl

theorem snapshotBlock_eq (start : Nat) (u : SurfaceUnit) :
    snapshotBlock u = (blockFields start u).flatMap fieldBytes := by
  simp only [blockFields, List.flatMap_cons, List.flatMap_nil, fieldBytes, leBytes_one, leBytes_zero]
  simp only [snapshotBlock, List.append_assoc, List.append_nil, List.cons_append, List.nil_append]
  rfl

theorem snapshotBytes_eq (s : State) : snapshotBytes s = (snapshotFields s).flatMap fieldBytes := by
  simp only [snapshotFields, List.flatMap_append, ← snapshotBlock_eq, List.flatMap_cons, List.flatMap_nil, fieldBytes,
    leBytes_one, leBytes_zero, ← runStateCode_eq, ← postureCode_eq, ← handCode_eq, ← penStateCode_eq,
    ← surfaceStateCode_eq, ← bankCode_eq]
  simp only [snapshotBytes, List.append_assoc, List.append_nil, List.cons_append, List.nil_append]

end Sys2Proof.Machine
end

section
/-! Failures (R195 to R198, R172): what a report leaves of the Fault Unit, the fault record's write, and the failed
reads of the Publisher, the Command Unit and the command in flight. -/

namespace Sys2Proof.Machine

/-! ### Reports (R195, R196) -/

theorem report_eq (s : State) (k : Stream) (w : Bool) (o : Nat) : report s k w o = reported s k w o := by
  simp only [report, reported, faultAfter, queueRecordWrite, startRecordWrite]
  cases hstored : s.fault.stored <;> cases hwrite : s.fault.write <;> rfl

theorem failStream_eq (s : State) (k : Stream) (w : Bool) (o : Nat) : failStream s k w o = failed s k w o := by
  rw [failStream, report_eq]
  rfl

theorem writesAt_eq_true_iff (s : State) (offset : BitVec 32) (cells : List Host.Cell) :
    writesAt (hostAddress s.regs offset.toNat) cells = true ↔ WritesAt s offset cells := by
  simp [writesAt, WritesAt, addressOf_eq]

/-- The writes before the one that failed have landed (log 18). -/
theorem writeBytes_landedBefore (s : State) (image : List Host.Cell) (offset : BitVec 32) (cells : List Host.Cell) :
    writeBytes image (landedBefore (hostAddress s.regs offset.toNat) cells) = landedImage s image offset cells := by
  have htest : (fun c : Host.Cell => c.1 != hostAddress s.regs offset.toNat) =
      fun c => decide (c.1 ≠ addressOf s.regs offset.toNat) := by
    funext c
    rw [addressOf_eq]
    exact Bool.eq_iff_iff.2 (bne_iff_ne.trans decide_eq_true_iff.symm)
  rw [landedBefore, landedImage, htest]

/-! ### The fault record's write (R196, R197) -/

theorem faultFields_contiguous (x : StoredFailure) (later : Nat) : Contiguous 0 (faultFields x later) := by
  simp [Contiguous, faultFields]

theorem faultCells_writes (r : Registers) (x : StoredFailure) (later : Nat) :
    RecordWrites r 0x0400 (faultFields x later) 1 (faultCells r x later) :=
  recordWrites_of_bytes (faultFields_contiguous x later) (faultBytes_eq x later) (by simp [stampBytes_eq])

/-- What follows a fault record write changes the write alone. -/
theorem nextRecordWrite_eq (r : Registers) (again : Bool) (f : FaultUnit) :
    nextRecordWrite r again f = { f with write :=
      if again then (f.stored.map fun x => (⟨faultCells r x f.later, false, false⟩ : RecordWrite)) else none } := by
  cases again with
  | false => rfl
  | true => cases hstored : f.stored <;> simp [nextRecordWrite, startRecordWrite, hstored]

theorem recordWritten_stale {s : State} {w : RecordWrite} (hw : s.fault.write = some w) (hstale : w.stale = true) :
    recordWritten s = { s with
      area := writeBytes s.area w.cells, fault := nextRecordWrite s.regs w.again s.fault } := by
  simp only [recordWritten, hw, hstale, if_true]
  rfl

theorem recordWritten_fresh {s : State} {w : RecordWrite} (hw : s.fault.write = some w) (hstale : w.stale = false) :
    recordWritten s = { s with
      area := writeBytes s.area w.cells
      regs := { s.regs with causes := s.regs.causes ||| 0x40#7 }
      fault := nextRecordWrite s.regs w.again { s.fault with written := true } } := by
  simp only [recordWritten, hw, hstale, Bool.false_eq_true, if_false]
  rfl

/-- Settles O60. -/
theorem faultRecordedSetsFault : Obligations.FaultRecordedSetsFault := by
  refine ⟨faultCells_writes, fun s w hw => ⟨_, exec_eq .faultRecorded s, ?_⟩⟩
  have write (again : Bool) (x : StoredFailure) (hagain : again = true) (hx : s.fault.stored = some x) :
      (if again then (s.fault.stored.map fun x => (⟨faultCells s.regs x s.fault.later, false, false⟩ : RecordWrite))
        else none) = some ⟨faultCells s.regs x s.fault.later, false, false⟩ := by
    rw [if_pos hagain, hx]
    rfl
  cases hstale : w.stale with
  | true =>
    have heq : nextState .faultRecorded s = _ := recordWritten_stale hw hstale
    rw [heq, nextRecordWrite_eq]
    exact ⟨rfl, writtenThereAlone _ _, (nomatch ·), fun _ => ⟨rfl, rfl⟩, rfl, rfl, fun h => if_neg (by simp [h]),
      fun x hagain hx => write w.again x hagain hx⟩
  | false =>
    have heq : nextState .faultRecorded s = _ := recordWritten_fresh hw hstale
    rw [heq, nextRecordWrite_eq]
    exact ⟨rfl, writtenThereAlone _ _, fun _ => ⟨rfl, rfl⟩, (nomatch ·), rfl, rfl, fun h => if_neg (by simp [h]),
      fun x hagain hx => write w.again x hagain hx⟩

end Sys2Proof.Machine
end

section
/-! The command list (section 8.5): a command in flight performed and its result, the settings commands, SNAPSHOT,
and the examination of a record. -/

namespace Sys2Proof.Machine

/-! ### Results (R171) -/

/-- The command in flight is the one its own event performs. -/
theorem perform_of_inFlightAs {kind : Nat} {body : InFlight → State → State} {s : State} {f : InFlight}
    (h : InFlightAs s kind f) : perform kind body s = body f s :=
  perform_of_inFlight body h.1 h.2.1 h.2.2

theorem takenCells_eq (r : Registers) (index : Nat) : takenCells r index = takenWrite r index := rfl

theorem finish_eq (result detail : Nat) (data : List Byte) (f : InFlight) (s : State) :
    finish result detail data f s = withResult s f result detail data := by
  cases htaken : f.taken <;> simp only [finish, ackTaken, withResult, htaken] <;> rfl

theorem resultData_nil : resultData [] = List.replicate 32 0 := rfl

theorem finishOk_eq (f : InFlight) (s : State) : finishOk f s = withResult s f 0 0 (List.replicate 32 0) :=
  finish_eq 0 0 (resultData []) f s

/-! ### The settings commands (R89, R144, R145, R157, R158) -/

theorem surfaceOfCode_of_zero {n : Nat} (h : n = 0) : surfaceOfCode n = .pad := if_pos h

theorem surfaceOfCode_of_one {n : Nat} (h : n = 1) : surfaceOfCode n = .screen := if_neg (by omega)

theorem surfaceOfCode_of_code {n : Nat} {sf : Surface} (h : n = if sf = .pad then 0 else 1) : surfaceOfCode n = sf := by
  subst h
  cases sf <;> rfl

theorem setPosture_same {f : InFlight} {s : State} (h : postureOfCode (numAt f.record 4) = s.posture.posture) :
    setPosture f s = finishOk f s := if_pos h

theorem setPosture_other {f : InFlight} {s : State} (h : postureOfCode (numAt f.record 4) ≠ s.posture.posture) :
    setPosture f s = finishOk f (handEvents
      { s with posture := { s.posture with posture := postureOfCode (numAt f.record 4) } }
      [postureEvent s.posture.posture (postureOfCode (numAt f.record 4)) s.clock]) := if_neg h

/-- The screen's enable goes into the saved copy while a suspension is applied (R89). -/
theorem setSurface_pad {f : InFlight} {s : State} (h : numAt f.record 4 = 0) :
    setSurface f s = finishOk f { s with pad := { s.pad with enable := numAt f.record 5 == 1 } } := by
  simp only [setSurface, surfaceOfCode_of_zero h]

theorem setSurface_screen {f : InFlight} {s : State} (h : numAt f.record 4 = 1) :
    setSurface f s = finishOk f
      (if s.suspension.applied then { s with suspension := { s.suspension with saved := numAt f.record 5 == 1 } }
        else { s with screen := { s.screen with enable := numAt f.record 5 == 1 } }) := by
  simp only [setSurface, surfaceOfCode_of_one h]

/-- Settles O50. -/
theorem settingCommandsComplete : Obligations.SettingCommandsComplete := by
  intro s f ok
  have result {i : Instr} {x y : State} (hexec : nextState i s = finishOk f x) (hx : x = y) : exec i s = .next (ok y) := by
    rw [exec_eq, hexec, finishOk_eq, hx]
  refine ⟨fun h => ?_, fun h hsame => ?_, fun h hother => ?_, fun h hpad => ?_, fun h hscreen happlied => ?_,
    fun h hscreen happlied => ?_, fun h => ?_, fun h ha => ?_, fun h hb => ?_⟩
  · exact result (perform_of_inFlightAs h) rfl
  · exact result ((perform_of_inFlightAs h).trans (setPosture_same hsame)) rfl
  · exact result ((perform_of_inFlightAs h).trans (setPosture_other hother)) rfl
  · exact result ((perform_of_inFlightAs h).trans (setSurface_pad hpad)) rfl
  · exact result ((perform_of_inFlightAs h).trans (setSurface_screen hscreen)) (if_pos happlied)
  · exact result ((perform_of_inFlightAs h).trans (setSurface_screen hscreen))
      (if_neg (by simp [happlied]))
  · exact result (perform_of_inFlightAs h) rfl
  · have hbank : bankOfCode (numAt f.record 4) = .a := if_pos ha
    refine result (perform_of_inFlightAs h) ?_
    rw [hbank]
    rfl
  · have hbank : bankOfCode (numAt f.record 4) = .b := if_neg (by omega)
    refine result (perform_of_inFlightAs h) ?_
    rw [hbank]
    rfl

/-! ### SNAPSHOT (R174) -/

theorem offsetValid_iff (offset size : Nat) : offsetValid offset size = true ↔ OffsetAccepted offset size :=
  decide_eq_true_iff

theorem snapshotFields_contiguous (s : State) : Contiguous 0 (snapshotFields s) := by
  simp [Contiguous, snapshotFields, blockFields]

theorem snapshotCells_eq (s : State) (offset : Nat) :
    cellsAt s.regs offset (snapshotBytes s) = layout s.regs offset (snapshotFields s) := by
  rw [layout_of_contiguous s.regs offset 0 _ (snapshotFields_contiguous s), snapshotBytes_eq]
  rfl

theorem snapshotBytes_length (s : State) : (snapshotBytes s).length = 128 := by
  rw [snapshotBytes_eq]
  simp [snapshotFields, blockFields, fieldBytes]

/-- Settles O55. -/
theorem snapshotCopiesStateAtOnce : Obligations.SnapshotCopiesStateAtOnce := by
  refine ⟨fun s offset => ?_, fun s f h => ⟨fun hbad => ?_, fun hok => ?_⟩, fun s f offset hf hwrites => ?_⟩
  · rw [← snapshotCells_eq, cellsAt_length, snapshotBytes_length]
  · have hvalid := (offsetValid_iff (recordOffset f.record) 128).not.2 hbad
    rw [exec_eq]
    exact congrArg _ ((perform_of_inFlightAs h).trans ((if_neg hvalid).trans (finish_eq ..)))
  · have hvalid := (offsetValid_iff (recordOffset f.record) 128).2 hok
    rw [exec_eq, ← snapshotCells_eq]
    exact congrArg _ ((perform_of_inFlightAs h).trans ((if_pos hvalid).trans (finishOk_eq ..)))
  · have hcells := (writesAt_eq_true_iff s offset f.snapshot).2 hwrites
    have heq : nextState (.accessFailure .snapshotWrite offset) s =
        finish resultMemoryFault 0 (resultData []) { f with snapshot := [], fenceAfter := true }
          (putCells (report s .commands true offset.toNat)
            (landedBefore (hostAddress s.regs offset.toNat) f.snapshot)) := by
      simp only [nextState, failAccess, failSnapshotWrite, hf, hcells, if_true]
    rw [exec_eq, heq, finish_eq, putCells, report_eq, writeBytes_landedBefore]
    rfl

/-! ### The examination of a record (R168, R170 to R173) -/

theorem advance_of_more {s : State} {p : Pass} (hp : s.command.pass = some p) (hmore : p.examined + 1 < 16)
    (hstop : s.regs.stopping = false) (hopen : s.regs.fenced.commands = false) :
    advance s = { s with command := { s.command with
      pass := some { p with index := (p.index + 1) % 16, examined := p.examined + 1, since := s.clock } } } := by
  simp only [advance, hp]
  exact if_pos ⟨hmore, hstop, hopen⟩

theorem advance_of_last {s : State} {p : Pass} (hp : s.command.pass = some p)
    (hlast : ¬(p.examined + 1 < 16 ∧ s.regs.stopping = false ∧ s.regs.fenced.commands = false)) :
    advance s = endPass s := by
  simp only [advance, hp]
  exact if_neg hlast

theorem scanAfter_eq (s : State) (p : Pass) : scanAfter s.command p = scanEnds s p.last := rfl

theorem endPass_eq {s : State} {p : Pass} (hp : s.command.pass = some p) :
    endPass s = takeRescan { s with command := { s.command with scan := scanEnds s p.last, pass := none } } := by
  simp only [endPass, hp]
  rfl

/-- A pass that ends with no other asked for, or allowed. -/
theorem endPass_of_quiet {s : State} {p : Pass} (hp : s.command.pass = some p)
    (hquiet : (s.command.rescan && passAllowed s) = false) :
    endPass s = { s with command := { s.command with scan := scanEnds s p.last, pass := none } } := by
  rw [endPass_eq hp]
  exact if_neg (fun h => by simp [show (s.command.rescan && passAllowed s) = true from h] at hquiet)

theorem examine_of_pass {s : State} {p : Pass} (r : BitVec 512) (hp : s.command.pass = some p)
    (hf : s.command.inFlight = none) : examine r s = if numAt r 0 = 1 then takeCommand r p s else advance s := by
  simp only [examine, hp, hf]

theorem takeCommand_of_unknown {r : BitVec 512} {p : Pass} {s : State} (h : knownKind (recordKind r) = false) :
    takeCommand r p s = withInFlight s
      { index := p.index, record := r, phase := .finishing resultUnknownKind 0 (resultData []), taken := false,
        snapshot := [], fenceAfter := false, since := s.clock } := by
  simp [takeCommand, h]

theorem takeCommand_of_bad {r : BitVec 512} {p : Pass} {s : State} {b : Nat} (h : knownKind (recordKind r) = true)
    (hb : badArgument r = some b) :
    takeCommand r p s = withInFlight s
      { index := p.index, record := r, phase := .finishing resultBadValue b (resultData []), taken := false,
        snapshot := [], fenceAfter := false, since := s.clock } := by
  simp [takeCommand, h, hb]

theorem takeCommand_of_good {r : BitVec 512} {p : Pass} {s : State} (h : knownKind (recordKind r) = true)
    (hb : badArgument r = none) :
    takeCommand r p s = withInFlight s
      { index := p.index, record := r, phase := .performing, taken := false, snapshot := [], fenceAfter := false,
        since := s.clock } := by
  simp [takeCommand, h, hb]

/-- A write of TAKEN that fails ends the pass with COMMANDS fenced, so that no other begins (R172). -/
theorem failTaken_eq {s : State} {f : InFlight} {offset : Nat} (hf : s.command.inFlight = some f)
    (htaken : f.taken = false) (hoffset : offset = 64 * f.index) :
    failTaken offset s = { failed s .commands true offset with
      command := { s.command with
        inFlight := none, pass := none, scan := scanEnds s (s.command.pass.bind fun p => p.last) } } := by
  have hend : failTaken offset s =
      endPass { failed s .commands true offset with command := { s.command with inFlight := none } } := by
    simp only [failTaken, hf]
    rw [if_pos ⟨htaken, hoffset⟩, failStream_eq]
    rfl
  rw [hend]
  cases hp : s.command.pass with
  | none =>
    simp only [endPass, hp, Option.bind_none]
    rw [← hp]
    rfl
  | some p =>
    refine (endPass_of_quiet (p := p) ?_ ?_).trans rfl
    · exact hp
    · simp [passAllowed, failed, setFence]

/-- Settles O49. -/
theorem examinationTakesOrSkips : Obligations.ExaminationTakesOrSkips := by
  refine ⟨fun s f offset hf htaken hoffset => ?_, fun s r p hp hf => ?_⟩
  · rw [exec_eq]
    exact congrArg _ (failTaken_eq hf htaken hoffset)
  · intro taken
    have skipped (hposted : numAt r 0 ≠ 1) : exec (.commandExamination r) s = .next (advance s) :=
      congrArg _ ((examine_of_pass r hp hf).trans (if_neg hposted))
    have posted (hposted : numAt r 0 = 1) : exec (.commandExamination r) s = .next (takeCommand r p s) :=
      congrArg _ ((examine_of_pass r hp hf).trans (if_pos hposted))
    refine ⟨fun hposted hstop hopen => ⟨fun hmore => ?_, fun hlast hrescan => ?_⟩, fun hposted => ⟨fun hkind => ?_,
      fun hlow hhigh => ⟨fun b hb => ?_, fun hgood => ?_⟩⟩⟩
    · rw [skipped hposted, advance_of_more hp (by omega) hstop hopen]
    · rw [skipped hposted, advance_of_last hp (by omega), endPass_of_quiet hp (by simp [hrescan])]
      rfl
    · rw [posted hposted, takeCommand_of_unknown (decide_eq_false (by unfold recordKind; omega))]
      rfl
    · rw [posted hposted, takeCommand_of_bad (decide_eq_true ⟨hlow, hhigh⟩) hb]
      rfl
    · rw [posted hposted, takeCommand_of_good (decide_eq_true ⟨hlow, hhigh⟩) hgood]
      rfl

end Sys2Proof.Machine
end

section
/-! Failed reads (R195, R172) and the event strip (R182 to R184). -/

namespace Sys2Proof.Machine

/-! ### Holding an event (R183, R184) -/

theorem joinsStep_iff (y e : Event) :
    joinsStep y e = true ↔ y.kind = .gestureStep ∧ e.kind = .gestureStep ∧ y.inst = e.inst := by
  simp [joinsStep, and_assoc]

theorem discardStep_append {pre post : List Event} {x : Event} (hx : x.kind = .gestureStep)
    (hpre : ∀ z ∈ pre, z.kind ≠ .gestureStep) : discardStep (pre ++ x :: post) = pre ++ post := by
  induction pre with
  | nil => exact if_pos hx
  | cons z pre ih =>
    rw [List.cons_append, discardStep, if_neg (hpre z List.mem_cons_self),
      ih fun w hw => hpre w (List.mem_cons_of_mem z hw)]
    rfl

theorem discardOne_of_step {pre post : List Event} {x : Event} (hx : x.kind = .gestureStep)
    (hpre : ∀ z ∈ pre, z.kind ≠ .gestureStep) : discardOne (pre ++ x :: post) = pre ++ post := by
  rw [discardOne, if_pos (List.any_eq_true.2 ⟨x, by simp, by simp [hx]⟩), discardStep_append hx hpre]

theorem discardOne_of_no_step {q : List Event} (h : ∀ z ∈ q, z.kind ≠ .gestureStep) : discardOne q = q.tail := by
  rw [discardOne, if_neg]
  simpa using h

/-- A held event that joins the youngest one. -/
theorem holdEvent_of_joins {e y : Event} {p : EventPublisher} {pre : List Event} (hq : p.queue = pre ++ [y])
    (h : joinsStep y e = true) :
    holdEvent e p = { p with queue := pre ++ [coalesce y e], coalesced := bump16 p.coalesced } := by
  have hlast : p.queue.getLast? = some y := by simp [hq]
  simp only [holdEvent, hlast, h, if_true]
  simp [hq]

/-- A held event that joins none is added at the young end. -/
theorem holdEvent_of_alone {e : Event} {p : EventPublisher}
    (h : ∀ y, p.queue.getLast? = some y → joinsStep y e = false) (hroom : p.queue.length < 8) :
    holdEvent e p = { p with queue := p.queue ++ [e] } := by
  cases hlast : p.queue.getLast? with
  | none => simp [holdEvent, List.getLast?_eq_none_iff.1 hlast]
  | some y => simp [holdEvent, hlast, h y hlast, queueLimit, hroom]

/-- In a full queue one event is discarded for it. -/
theorem holdEvent_of_full {e : Event} {p : EventPublisher}
    (h : ∀ y, p.queue.getLast? = some y → joinsStep y e = false) (hfull : 8 ≤ p.queue.length) :
    holdEvent e p = { p with queue := discardOne p.queue ++ [e], lost := bump16 p.lost, loss := true } := by
  cases hlast : p.queue.getLast? with
  | none => simp [List.getLast?_eq_none_iff.1 hlast] at hfull
  | some y => simp [holdEvent, hlast, h y hlast, queueLimit, Nat.not_lt.2 hfull]

theorem holdEvent_holds (e : Event) (p : EventPublisher) : Holds e p (holdEvent e p) := by
  have alone {y : Event} (h : ¬(y.kind = .gestureStep ∧ e.kind = .gestureStep ∧ y.inst = e.inst)) :
      joinsStep y e = false := Bool.eq_false_iff.2 ((joinsStep_iff y e).not.2 h)
  refine ⟨fun pre y hq hjoin => ?_, fun hnone hroom => ?_, fun hnone hfull => ⟨fun pre x post hq hx hpre => ?_,
    fun hno => ?_⟩⟩
  · exact holdEvent_of_joins hq ((joinsStep_iff y e).2 hjoin)
  · exact holdEvent_of_alone (fun y hy => alone (hnone y hy)) hroom
  · rw [holdEvent_of_full (fun y hy => alone (hnone y hy)) hfull, hq, discardOne_of_step hx hpre]
    rfl
  · rw [holdEvent_of_full (fun y hy => alone (hnone y hy)) hfull, discardOne_of_no_step hno]
    rfl

theorem holdFresh_holds (fresh : Option Event) (p : EventPublisher) : HoldsFresh fresh p (holdFresh fresh p) := by
  cases fresh with
  | none => rfl
  | some e => exact holdEvent_holds e p

theorem holdFresh_keepsHanded (fresh : Option Event) (p : EventPublisher) : (holdFresh fresh p).handed = p.handed := by
  cases fresh with
  | none => rfl
  | some e =>
    simp only [holdFresh, holdEvent]
    (repeat' split) <;> rfl

/-! ### An access has ended (log 6) -/

theorem resumeEvents_of_nil {s : State} {p : EventPublisher} (h : p.handed = []) :
    resumeEvents s p = { s with events := { p with access := .none } } := by
  rw [resumeEvents, h, runEvents, ← h]

/-- An event access ends with the new event held, nothing waiting. -/
theorem resumeEvents_holdFresh {s : State} {fresh : Option Event} (hhanded : s.events.handed = []) :
    resumeEvents s (holdFresh fresh s.events) = { s with events := { holdFresh fresh s.events with access := .none } } :=
  resumeEvents_of_nil ((holdFresh_keepsHanded fresh s.events).trans hhanded)

theorem fencedFrames_of_nil {sf : Surface} {s : State} (h : (surfaceOf s sf).publisher.handed = []) :
    fencedFrames sf s = { (surfaceOf s sf).publisher with access := .none } := by
  simp only [fencedFrames, h, runFrames]

theorem fencedSamples_of_nil {s : State} (h : s.penOut.handed = []) :
    fencedSamples s = { s.penOut with access := .none } := by
  simp only [fencedSamples, h, runSamples]

/-- A frame access ends on its stream just fenced, in whatever image. -/
theorem resumeFrames_of_failed (s : State) (sf : Surface) (w : Bool) (o : Nat) (image : List Host.Cell) :
    resumeFrames { failed s (frameStream sf) w o with area := image } sf =
      withSurface { failed s (frameStream sf) w o with area := image } sf
        { surfaceOf s sf with publisher := fencedFrames sf s } := by
  cases sf <;> rfl

theorem resumeSamples_of_failed (s : State) (w : Bool) (o : Nat) (image : List Host.Cell) :
    resumeSamples { failed s .pen w o with area := image } =
      { failed s .pen w o with area := image, penOut := fencedSamples s } := rfl

theorem failStream_putCells (s : State) (l : List Host.Cell) (k : Stream) (w : Bool) (o : Nat) :
    failStream (putCells s l) k w o = { failed s k w o with area := writeBytes s.area l } := by
  rw [failStream_eq]
  rfl

/-! ### Reads that fail (R195, R172, R154, R156) -/

theorem failFrameRead_eq {s : State} {sf : Surface} {since : Time} {offset : Nat}
    (h : (surfaceOf s sf).publisher.access = .reading since)
    (hoffset : offset = frameSlotOffset sf (surfaceOf s sf).publisher.index) :
    failFrameRead sf offset s = withSurface (failed s (frameStream sf) false offset) sf
      { surfaceOf s sf with publisher := fencedFrames sf s } := by
  simp only [failFrameRead, h]
  rw [if_pos hoffset, failStream_eq]
  exact resumeFrames_of_failed s sf false offset s.area

theorem failPenRead_eq {s : State} {since : Time} {offset : Nat} (h : s.penOut.access = .reading since)
    (hoffset : offset = 0x0C00 + 64 * s.penOut.index) :
    failPenRead offset s = { failed s .pen false offset with penOut := fencedSamples s } := by
  simp only [failPenRead, h]
  refine (if_pos hoffset).trans ?_
  rw [failStream_eq]
  rfl

theorem failEventRead_eq {s : State} {fresh : Option Event} {since : Time} {offset : Nat}
    (h : s.events.access = .reading fresh since) (hhanded : s.events.handed = [])
    (hoffset : offset = 0x0800 + 32 * s.events.position) :
    failEventRead offset s = { failed s .events false offset with
      events := { holdFresh fresh s.events with access := .none } } := by
  simp only [failEventRead, h]
  refine (if_pos hoffset).trans ?_
  rw [failStream_eq]
  exact resumeEvents_holdFresh (s := failed s .events false offset) hhanded

/-- A record read that fails ends the pass with COMMANDS fenced, so that no other begins (R172). -/
theorem failRecordRead_eq {s : State} {p : Pass} {offset : Nat} (hp : s.command.pass = some p)
    (hf : s.command.inFlight = none) (hoffset : offset = 64 * p.index) :
    failRecordRead offset s = { failed s .commands false offset with
      command := { s.command with pass := none, scan := scanEnds s p.last } } := by
  have hend : failRecordRead offset s = endPass (failed s .commands false offset) := by
    simp only [failRecordRead, hp, hf]
    exact (if_pos hoffset).trans (congrArg endPass (failStream_eq ..))
  rw [hend]
  refine (endPass_of_quiet (p := p) ?_ ?_).trans rfl
  · exact hp
  · simp [passAllowed, failed, setFence]

theorem performing_of_inFlightAs {s : State} {kind : Nat} {f : InFlight} (h : InFlightAs s kind f) :
    performing kind s = some f := by
  obtain ⟨hf, hphase, hkind⟩ := h
  simp [performing, hf, hphase, hkind]

theorem performing_of_other {s : State} {kind other : Nat} {f : InFlight} (h : InFlightAs s kind f)
    (hne : kind ≠ other) : performing other s = none := by
  obtain ⟨hf, hphase, hkind⟩ := h
  simp [performing, hf, hkind, hne]

/-- What LOAD_BANK reads: the list's head, or the next entry (log 43). -/
theorem dataReadAt_head {s : State} {f : InFlight} (h : InFlightAs s 1 f) (hnone : s.posture.staging = none)
    (hvalid : OffsetAccepted (recordOffset f.record) 8) : dataReadAt s = some (recordOffset f.record) := by
  simp only [dataReadAt, performing_of_inFlightAs h, hnone]
  exact if_pos ((offsetValid_iff _ _).2 hvalid)

theorem dataReadAt_entry {s : State} {f : InFlight} {g : Staging} (h : InFlightAs s 1 f)
    (hg : s.posture.staging = some g) : dataReadAt s = some (recordOffset f.record + 8 + 8 * g.applied) := by
  simp only [dataReadAt, performing_of_inFlightAs h, hg]

/-- The zone records read so far, none before the first. -/
def zonesSoFar (s : State) : ZoneStaging := s.posture.zoneStaging.getD { places := [], clamped := 0, dropped := 0 }

theorem dataReadAt_zone {s : State} {f : InFlight} (h : InFlightAs s 2 f)
    (hvalid : OffsetAccepted (recordOffset f.record) (16 * numAt f.record 5))
    (hmore : (zonesSoFar s).places.length < numAt f.record 5) :
    dataReadAt s = some (recordOffset f.record + 16 * (zonesSoFar s).places.length) := by
  have hread : (s.posture.zoneStaging.map fun g => g.places.length).getD 0 = (zonesSoFar s).places.length := by
    cases hg : s.posture.zoneStaging <;> simp [zonesSoFar, hg]
  simp only [dataReadAt, performing_of_other h (by decide : 2 ≠ 1), performing_of_inFlightAs h, hread]
  exact if_pos ⟨(offsetValid_iff _ _).2 hvalid, hmore⟩

/-- A data read that fails refuses the command with the counts it had reached (R154, R156, R172). -/
theorem failDataRead_eq {s : State} {f : InFlight} {offset : Nat} (hf : s.command.inFlight = some f)
    (hread : dataReadAt s = some offset) :
    failDataRead offset s = withResult
      { reported s .commands false offset with
        posture := { s.posture with staging := none, zoneStaging := none } }
      { f with fenceAfter := true } 20 0 (reachedCounts s f) := by
  simp only [failDataRead, hf, hread, if_true]
  rw [finish_eq, report_eq]
  rfl

theorem reachedCounts_bank {s : State} {f : InFlight} (hkind : recordKind f.record = 1) (g : Staging)
    (hg : s.posture.staging = some g ∨ (s.posture.staging = none ∧ g.skipped = 0 ∧ g.clamped = 0)) :
    reachedCounts s f = leBytes 2 g.skipped ++ leBytes 2 g.clamped ++ List.replicate 28 0 := by
  obtain hg | ⟨hg, hskipped, hclamped⟩ := hg
  · simp only [reachedCounts, hkind, hg, if_true]
    rfl
  · simp only [reachedCounts, hkind, hg, hskipped, hclamped, if_true]
    rfl

theorem reachedCounts_zones {s : State} {f : InFlight} (hkind : recordKind f.record = 2) :
    reachedCounts s f = [BitVec.ofNat 8 (zonesSoFar s).clamped, BitVec.ofNat 8 (zonesSoFar s).dropped] ++
      List.replicate 30 0 := by
  cases hg : s.posture.zoneStaging with
  | none =>
    simp only [reachedCounts, hkind, hg, zonesSoFar]
    rfl
  | some g =>
    simp only [reachedCounts, hkind, hg, zonesSoFar]
    rfl

theorem timedOut_iff {acc : Access} {s : State} {since : Time} (h : readSince acc s = some since) :
    timedOut acc s = true ↔ 10000 ≤ (s.clock - since).toNat := by
  simp only [timedOut, h]
  exact decide_eq_true_iff

/-- Settles O59. -/
theorem failedReadsFenceTheirStream : Obligations.FailedReadsFenceTheirStream := by
  refine ⟨fun s sf since offset => ?_, fun s since offset h hoffset => ?_, fun s fresh since offset h hhanded hoffset => ?_,
    fun s p offset hp hf hoffset => ?_, fun s f offset => ?_, fun acc offset s since h => ?_⟩
  · intro u h hoffset
    exact ⟨congrArg _ (failFrameRead_eq h hoffset), fencedFrames_of_nil⟩
  · exact ⟨congrArg _ (failPenRead_eq h hoffset), fencedSamples_of_nil⟩
  · exact ⟨_, holdFresh_holds fresh s.events, congrArg _ (failEventRead_eq h hhanded hoffset)⟩
  · exact congrArg _ (failRecordRead_eq hp hf hoffset)
  · intro record refused pair
    have fails {counts : List Byte} (hf : s.command.inFlight = some f) (hread : dataReadAt s = some offset.toNat)
        (hcounts : reachedCounts s f = counts) : exec (.accessFailure .dataRead offset) s = .next (refused counts) := by
      rw [← hcounts]
      exact congrArg _ (failDataRead_eq hf hread)
    refine ⟨fun h => ⟨fun hnone hvalid hoffset => ?_, fun g hg hoffset => ?_⟩, fun h hvalid => ?_⟩
    · refine fails h.1 (hoffset ▸ dataReadAt_head h hnone hvalid) ?_
      exact reachedCounts_bank h.2.2 ⟨s.posture.bankA, 0, 0, 0, 0⟩ (.inr ⟨hnone, rfl, rfl⟩)
    · exact fails h.1 (hoffset ▸ dataReadAt_entry h hg) (reachedCounts_bank h.2.2 g (.inl hg))
    · intro g hmore hoffset
      exact fails h.1 (hoffset ▸ dataReadAt_zone h hvalid hmore) (reachedCounts_zones h.2.2)
  · refine ⟨fun hlate => ?_, fun hearly => ?_⟩
    · exact congrArg _ (if_pos ((timedOut_iff h).2 hlate))
    · exact congrArg _ (if_neg ((timedOut_iff h).not.2 (by omega)))

/-! ### The event strip (R182 to R184) -/

theorem eventFields_contiguous (e : Event) (loss : Bool) : Contiguous 0 (eventFields e loss) := by
  simp [Contiguous, eventFields]

theorem eventCells_writes (r : Registers) (position : Nat) (e : Event) (loss : Bool) :
    RecordWrites r (0x0800 + 32 * position) (eventFields e loss)
      (1 + codeOf [.gestureBegin, .gestureStep, .gestureEnd, .tap, .penButton, .postureChanged, .wake] e.kind)
      (eventCells r position e loss) := by
  rw [← eventKindCode_eq]
  exact recordWrites_of_bytes (eventFields_contiguous e loss) (eventBytes_eq e loss) (by simp [stampBytes_eq, signed2_eq])

theorem gestureCode_eq (g : Gesture) : gestureCode g = 2 + codeOf [.drag, .scroll, .pinch, .swipe3, .swipe4] g := by
  cases g <;> rfl

theorem eventOnOffer_eq {p : EventPublisher} {fresh : Option Event} {e : Event}
    (h : p.queue.head? = some e ∨ (p.queue = [] ∧ fresh = some e)) : eventOnOffer p fresh = some e := by
  obtain h | ⟨hq, hfresh⟩ := h
  · obtain ⟨q, hq⟩ := List.head?_eq_some_iff.1 h
    simp only [eventOnOffer, hq]
  · simp only [eventOnOffer, hq, hfresh]

theorem readEventKind_of_offer {s : State} {fresh : Option Event} {since : Time} {e : Event} (kind : Byte)
    (h : s.events.access = .reading fresh since)
    (hoffer : s.events.queue.head? = some e ∨ (s.events.queue = [] ∧ fresh = some e)) :
    readEventKind kind s =
      if kind = 0 then { s with events := { s.events with
        access := .writing fresh s.events.loss (eventCells s.regs s.events.position e s.events.loss) } }
      else resumeEvents s (holdFresh fresh s.events) := by
  simp only [readEventKind, h, eventOnOffer_eq hoffer]

/-- An event is held while EVENTS is fenced (R184). -/
theorem handEvents_of_fenced {s : State} (e : Event) (hfenced : s.regs.fenced.events = true)
    (haccess : s.events.access = .none) (hhanded : s.events.handed = []) :
    handEvents s [e] = { s with events := holdEvent e s.events } := by
  have hheld : (holdEvent e s.events).handed = [] := (holdFresh_keepsHanded (some e) s.events).trans hhanded
  rw [handEvents, handItems, hhanded, hfenced, List.map_cons, List.map_nil, List.nil_append, runEvents, if_pos haccess,
    if_pos rfl, runEvents, holdFresh, ← hheld]

theorem failEventWrite_eq {s : State} {fresh : Option Event} {loss : Bool} {cells : List Host.Cell}
    {offset : BitVec 32} (h : s.events.access = .writing fresh loss cells) (hhanded : s.events.handed = [])
    (hwrites : WritesAt s offset cells) :
    failEventWrite offset.toNat s = { failed s .events true offset.toNat with
      area := landedImage s s.area offset cells, events := { holdFresh fresh s.events with access := .none } } := by
  simp only [failEventWrite, h]
  refine (if_pos ((writesAt_eq_true_iff s offset cells).2 hwrites)).trans ?_
  rw [failStream_putCells, writeBytes_landedBefore]
  exact resumeEvents_holdFresh
    (s := { failed s .events true offset.toNat with area := landedImage s s.area offset cells }) hhanded

/-- The event strip after a record's write has succeeded. -/
def eventWritten (s : State) (loss : Bool) : EventPublisher :=
  { s.events with
    position := (s.events.position + 1) % 32, queue := s.events.queue.tail, loss := s.events.loss && !loss }

/-- The new event, still waiting after the write of a held one. -/
def eventWaiting (s : State) (fresh : Option Event) : Option Event := if s.events.queue = [] then none else fresh

theorem afterEventWritten_eq (s : State) (fresh : Option Event) (loss : Bool) :
    afterEventWritten s fresh loss =
      if (eventWritten s loss).queue = [] ∧ eventWaiting s fresh = none then resumeEvents s (eventWritten s loss)
      else { s with events := { eventWritten s loss with access := .reading (eventWaiting s fresh) s.clock } } := by
  have hloss : (if loss = true then false else s.events.loss) = (s.events.loss && !loss) := by cases loss <;> simp
  have hwaiting : (if s.events.queue.isEmpty = true then none else fresh) = eventWaiting s fresh := by
    simp [eventWaiting, List.isEmpty_iff]
  simp only [afterEventWritten, hloss, hwaiting]
  simp only [Bool.and_eq_true, List.isEmpty_iff, Option.isNone_iff_eq_none]
  rfl

theorem publishEvent_eq {s : State} {fresh : Option Event} {loss : Bool} {cells : List Host.Cell}
    (h : s.events.access = .writing fresh loss cells) :
    publishEvent s = afterEventWritten (setCause (putCells s cells) .event) fresh loss := by
  simp only [publishEvent, h]

/-- Settles O58. -/
theorem eventStripWritesInOrder : Obligations.EventStripWritesInOrder := by
  refine ⟨eventCells_writes, gestureCode_eq, fun s fresh since e kind h hoffer => ⟨fun hempty => ?_, fun hfull hhanded =>
    ⟨⟨_, holdFresh_holds fresh s.events, ?_⟩, fun hqueue => ?_⟩⟩, fun s e hfenced haccess hhanded =>
    ⟨_, holdEvent_holds e s.events, handEvents_of_fenced e hfenced haccess hhanded⟩, fun s fresh loss cells offset h hhanded
    hwrites => ⟨_, holdFresh_holds fresh s.events, congrArg _ (failEventWrite_eq h hhanded hwrites)⟩,
    fun s fresh loss cells h => ?_⟩
  · exact congrArg _ ((readEventKind_of_offer kind h hoffer).trans (if_pos hempty))
  · exact congrArg _ ((readEventKind_of_offer kind h hoffer).trans ((if_neg hfull).trans (resumeEvents_holdFresh hhanded)))
  · have hfresh : fresh = some e := by simpa [hqueue] using hoffer
    have hheld : holdFresh fresh s.events = { s.events with queue := [e] } := by
      rw [hfresh, holdFresh, holdEvent_of_alone (by simp [hqueue]) (by simp [hqueue]), hqueue, List.nil_append]
    refine congrArg _ ((readEventKind_of_offer kind h hoffer).trans ((if_neg hfull).trans ?_))
    rw [resumeEvents_holdFresh hhanded, hheld]
  · intro written waiting
    have hnext : nextState .eventPublished s = _ := (publishEvent_eq h).trans (afterEventWritten_eq _ fresh loss)
    refine ⟨_, exec_eq .eventPublished s, ?_⟩
    by_cases hrest : written.queue = [] ∧ waiting = none
    · rw [hnext.trans (if_pos hrest)]
      refine ⟨rfl, fun hmore => ?_, fun _ _ hhanded => ?_, fun _ _ x xs hhanded => ?_, writtenThereAlone _ _⟩
      · obtain ⟨hq, hw⟩ := hrest
        exact hmore.elim (fun hne => absurd hq hne) fun hsome => absurd hsome (by simp [hw])
      · exact congrArg State.events (resumeEvents_of_nil (s := setCause (putCells s cells) .event) (p := written) hhanded)
      · exact congrArg (fun l => runEvents s.regs.fenced.events s.clock l { written with access := .none }) hhanded
    · rw [hnext.trans (if_neg hrest)]
      exact ⟨rfl, fun _ => rfl, fun hq hw => absurd ⟨hq, hw⟩ hrest, fun hq hw => absurd ⟨hq, hw⟩ hrest,
        writtenThereAlone _ _⟩

end Sys2Proof.Machine
end

section
/-! The completion of a command (R171, R172). -/

namespace Sys2Proof.Machine

/-! ### The command released (R170, R172) -/

/-- The registers and the command in flight after a command, its pass not yet gone on. -/
def releasedState (f : InFlight) (s : State) : State :=
  { s with
    regs := fencedAfter s f
    command := { s.command with
      inFlight := none, pass := s.command.pass.map fun p => { p with last := some f.index } } }

theorem releaseCommand_eq (f : InFlight) (s : State) : releaseCommand f s = advance (releasedState f s) := by
  cases hp : s.command.pass <;> cases hfence : f.fenceAfter <;>
    simp only [releaseCommand, markTaken, hp, hfence, releasedState, fencedAfter] <;> rfl

theorem releasedState_pass {f : InFlight} {s : State} {p : Pass} (hp : s.command.pass = some p) :
    (releasedState f s).command.pass = some { p with last := some f.index } := by
  simp only [releasedState, hp, Option.map_some]

@[simp] theorem fencedAfter_stopping (s : State) (f : InFlight) : (fencedAfter s f).stopping = s.regs.stopping := by
  unfold fencedAfter
  split <;> rfl

@[simp] theorem fencedAfter_runState (s : State) (f : InFlight) : (fencedAfter s f).state = s.regs.state := by
  unfold fencedAfter
  split <;> rfl

theorem releaseCommand_of_none {f : InFlight} {s : State} (hp : s.command.pass = none) :
    releaseCommand f s = { s with regs := fencedAfter s f, command := { s.command with inFlight := none } } := by
  rw [releaseCommand_eq, advance]
  simp only [releasedState, hp, Option.map_none]

theorem releaseCommand_of_more {f : InFlight} {s : State} {p : Pass} (hp : s.command.pass = some p)
    (hmore : p.examined + 1 < 16 ∧ s.regs.stopping = false ∧ (fencedAfter s f).fenced.commands = false) :
    releaseCommand f s = { s with
      regs := fencedAfter s f
      command := { s.command with
        inFlight := none
        pass := some { index := (p.index + 1) % 16, examined := p.examined + 1, last := some f.index
                       since := s.clock } } } := by
  obtain ⟨hexamined, hstop, hopen⟩ := hmore
  rw [releaseCommand_eq, advance_of_more (releasedState_pass hp) hexamined ((fencedAfter_stopping s f).trans hstop) hopen]
  rfl

/-- After the last record of its pass a command leaves the scan position behind it; another pass begins where the rescan
flag asks for one. -/
theorem releaseCommand_of_last {f : InFlight} {s : State} {p : Pass} (hp : s.command.pass = some p)
    (hlast : ¬(p.examined + 1 < 16 ∧ s.regs.stopping = false ∧ (fencedAfter s f).fenced.commands = false)) :
    releaseCommand f s = takeRescan { s with
      regs := fencedAfter s f
      command := { s.command with inFlight := none, pass := none, scan := (f.index + 1) % 16 } } := by
  rw [releaseCommand_eq, advance_of_last (releasedState_pass hp), endPass_eq (releasedState_pass hp)]
  · rfl
  · rw [show (releasedState f s).regs.stopping = s.regs.stopping from fencedAfter_stopping s f]
    exact hlast

theorem passAllowed_iff (s : State) : passAllowed s = true ↔
    (s.regs.state = .running ∨ s.regs.state = .doze) ∧ s.regs.stopping = false ∧ s.regs.fenced.commands = false := by
  simp [passAllowed, isRunning_iff, and_assoc]

theorem takeRescan_of_not {s : State} (h : ¬(s.command.rescan = true ∧ passAllowed s = true)) : takeRescan s = s :=
  if_neg (by simpa [Bool.and_eq_true] using h)

theorem takeRescan_of_asked {s : State} (hrescan : s.command.rescan = true) (hallowed : passAllowed s = true) :
    takeRescan s = { s with command := { s.command with
      rescan := false, pass := some { index := s.command.scan, examined := 0, last := none, since := s.clock } } } :=
  (if_pos (by simp [hrescan, hallowed])).trans rfl

/-! ### The writes of a completion (Table 8-4) -/

/-- A command's final writes. -/
def finalWrites (r : Registers) (index result detail : Nat) (data : List Byte) : List Host.Cell :=
  layout r (64 * index) [(2, 1, result), (3, 1, detail)] ++
    data.zipIdx.map (fun q => (addressOf r (64 * index + 32 + q.2), q.1)) ++
    layout r (64 * index) [(0, 1, if result ≤ 1 then 3 else 4)]

theorem finalCells_eq (r : Registers) (index result detail : Nat) (data : List Byte) :
    finalCells r index result detail data = finalWrites r index result detail data := by
  have hhead : layout r (64 * index) [(2, 1, result), (3, 1, detail)] =
      cellsAt r (64 * index + 2) [byte1 result, byte1 detail] := by
    rw [layout_of_contiguous r (64 * index) 2 _ (by simp [Contiguous])]
    simp [fieldBytes, leBytes_one]
  have hstate (n : Nat) : layout r (64 * index) [(0, 1, n)] = cellsAt r (64 * index) [byte1 n] := by
    rw [layout_of_contiguous r (64 * index) 0 _ (by simp [Contiguous])]
    simp [fieldBytes, leBytes_one]
  rw [finalWrites, hhead, hstate]
  rfl

/-- The offsets in its record that a command's final writes touch. -/
def finalOffsets : List Nat := [2, 3] ++ (List.range 32).map (32 + ·) ++ [0]

theorem finalWrites_addresses (r : Registers) (index result detail : Nat) {data : List Byte} (h : data.length = 32) :
    (finalWrites r index result detail data).map (fun c => c.1) =
      finalOffsets.map fun i => hostAddress r (64 * index + i) := by
  have hdata : (data.zipIdx.map fun q => (addressOf r (64 * index + 32 + q.2), q.1)).map (fun c => c.1) =
      ((List.range 32).map (32 + ·)).map fun i => hostAddress r (64 * index + i) := by
    apply List.ext_getElem
    · simp [h]
    · intro i h1 h2
      simp [addressOf_eq, Nat.add_assoc]
  rw [finalWrites, List.map_append, List.map_append, hdata, finalOffsets, List.map_append, List.map_append]
  rfl

theorem finalWrites_nodup (r : Registers) (index result detail : Nat) {data : List Byte} (h : data.length = 32) :
    ((finalWrites r index result detail data).map fun c => c.1).Nodup := by
  rw [finalWrites_addresses r index result detail h]
  refine List.Nodup.map_on (fun a ha b hb heq => ?_) (by decide)
  have hbound : ∀ i ∈ finalOffsets, i < 64 := by decide
  have hlt := hbound a ha
  have hlt' := hbound b hb
  obtain hle | hle := Nat.le_total a b
  · have := hostAddress_inj r heq (by omega) (by omega)
    omega
  · have := hostAddress_inj r heq.symm (by omega) (by omega)
    omega

/-- The final state is written last. -/
theorem finalWrites_last (r : Registers) (index result detail : Nat) (data : List Byte) :
    ∃ l, finalWrites r index result detail data =
      l ++ [(addressOf r (64 * index), if result ≤ 1 then 3#8 else 4#8)] := by
  refine ⟨_, congrArg (List.append _) ?_⟩
  by_cases h : result ≤ 1 <;> simp [layout, h]

/-- The last write of a list is what is read at its address. -/
theorem readByte_writeBytes_last (m cells : List Host.Cell) (c : Host.Cell) :
    readByte (writeBytes m (cells ++ [c])) c.1 = some c.2 := by
  rw [writeBytes, List.foldl_append]
  exact readByte_writeByte_same _ c.1 c.2

theorem ackTaken_eq {s : State} {f : InFlight} (hf : s.command.inFlight = some f) :
    ackTaken f s = { s with area := takenImage s } := by
  cases htaken : f.taken <;> simp only [ackTaken, takenImage, hf, htaken] <;> rfl

theorem takenImage_other {s : State} {f : InFlight} (hf : s.command.inFlight = some f) {a : Nat}
    (h : addressOf s.regs (64 * f.index) ≠ a) : readByte (takenImage s) a = readByte s.area a := by
  cases htaken : f.taken <;> simp only [takenImage, hf, htaken, if_true]
  exact readByte_writeBytes_other _ _ a (by simpa [takenWrite] using h)

theorem writeBytes_append (m a b : List Host.Cell) : writeBytes m (a ++ b) = writeBytes (writeBytes m a) b :=
  List.foldl_append

/-! ### COMMAND_COMPLETION and a failed final write (R171, R172) -/

/-- The state with a command's writes made and COMMAND set. -/
def resultWritten (s : State) (f : InFlight) (result detail : Nat) (data : List Byte) : State :=
  { s with
    regs := { s.regs with causes := s.regs.causes ||| 0x10#7 }
    area := writeBytes (takenImage s) (f.snapshot ++ finalWrites s.regs f.index result detail data) }

theorem complete_eq {s : State} {f : InFlight} {result detail : Nat} {data : List Byte}
    (hf : s.command.inFlight = some f) (hphase : f.phase = .finishing result detail data) :
    complete s = releaseCommand f (resultWritten s f result detail data) := by
  simp only [complete, hf, hphase, ackTaken_eq hf, finalCells_eq]
  rfl

theorem fencedAfter_resultWritten (s : State) (f : InFlight) (result detail : Nat) (data : List Byte) :
    fencedAfter (resultWritten s f result detail data) f =
      { fencedAfter s f with causes := s.regs.causes ||| 0x10#7 } := by
  cases hfence : f.fenceAfter <;> simp only [fencedAfter, hfence] <;> rfl

theorem failFinalWrite_eq {s : State} {f : InFlight} {result detail : Nat} {data : List Byte} {offset : BitVec 32}
    (hf : s.command.inFlight = some f) (hphase : f.phase = .finishing result detail data)
    (hwrites : WritesAt s offset (finalWrites s.regs f.index result detail data)) :
    failFinalWrite offset.toNat s = releaseCommand { f with fenceAfter := true }
      { reported s .commands true offset.toNat with
        area := landedImage s (writeBytes (takenImage s) f.snapshot) offset
          (finalWrites s.regs f.index result detail data) } := by
  simp only [failFinalWrite, hf, hphase, finalCells_eq]
  rw [if_pos ((writesAt_eq_true_iff s offset _).2 hwrites), report_eq, ackTaken_eq hf, putCells, writeBytes_append,
    writeBytes_landedBefore]
  rfl

/-- Settles O56. -/
theorem completionWritesResult : Obligations.CompletionWritesResult := by
  intro s f result detail data hf hphase record final done idle goesOn another
  have hexec : exec .commandCompletion s = .next (releaseCommand f (resultWritten s f result detail data)) :=
    congrArg _ (complete_eq hf hphase)
  have hregs := fencedAfter_resultWritten s f result detail data
  have hopen : (fencedAfter (resultWritten s f result detail data) f).fenced.commands =
      (fencedAfter s f).fenced.commands := by rw [hregs]
  have hdone : done = { resultWritten s f result detail data with
      regs := fencedAfter (resultWritten s f result detail data) f } := by rw [hregs]; rfl
  have harea : done.area = writeBytes (takenImage s) (f.snapshot ++ final) := rfl
  obtain ⟨l, hl⟩ := finalWrites_last s.regs f.index result detail data
  refine ⟨fun p hp hgo => ?_, fun p hp hgo => ?_, fun hp => ?_, ?_, finalWrites_nodup s.regs f.index result detail,
    fun hnodup => readByte_writeBytes_mem _ _ hnodup, fun a ha => ?_, fun offset hwrites => ?_⟩
  · have hmore := releaseCommand_of_more (f := f) (s := resultWritten s f result detail data) hp (by rw [hopen]; exact hgo)
    rw [hexec, hmore, hdone]
    rfl
  · have hlast := releaseCommand_of_last (f := f) (s := resultWritten s f result detail data) hp (by rw [hopen]; exact hgo)
    have hallowed : passAllowed { resultWritten s f result detail data with
        regs := fencedAfter (resultWritten s f result detail data) f, command := idle } = true ↔
        (s.regs.state = .running ∨ s.regs.state = .doze) ∧ s.regs.stopping = false ∧
          (fencedAfter s f).fenced.commands = false := by
      rw [passAllowed_iff, ← hopen, fencedAfter_runState, fencedAfter_stopping]
      rfl
    refine ⟨fun hno => ?_, fun hyes => ?_⟩
    · rw [hexec, hlast, hdone]
      refine congrArg _ ((takeRescan_of_not ?_).trans rfl)
      exact fun ⟨hrescan, hpass⟩ => hno ⟨hrescan, hallowed.1 hpass⟩
    · rw [hexec, hlast, hdone]
      exact congrArg _ ((takeRescan_of_asked (by exact hyes.1) (hallowed.2 hyes.2)).trans rfl)
  · have hnone := releaseCommand_of_none (f := f) (s := resultWritten s f result detail data) hp
    rw [hexec, hnone, hdone]
    rfl
  · rw [harea, show final = _ from hl, ← List.append_assoc]
    exact readByte_writeBytes_last _ _ _
  · rw [harea, readByte_writeBytes_other _ _ a ha]
    exact takenImage_other hf (ha (addressOf s.regs (64 * f.index), _) (by
      rw [show final = _ from hl, ← List.append_assoc]
      exact List.mem_append_right _ (List.mem_singleton.2 rfl)))
  · rw [exec_eq]
    refine congrArg _ ((failFinalWrite_eq hf hphase hwrites).trans ?_)
    cases hp : s.command.pass with
    | none => exact (releaseCommand_of_none (by exact hp)).trans rfl
    | some p =>
      refine (releaseCommand_of_last (p := p) (by exact hp) (by simp [fencedAfter])).trans ?_
      refine (takeRescan_of_not (by simp [passAllowed, fencedAfter])).trans rfl

end Sys2Proof.Machine
end

section
/-! Handovers taken, merged and cut (R176 to R180). -/

namespace Sys2Proof.Machine

/-! ### Selection and the shown-undecided set (R176) -/

theorem mem_pendingIds {p : FramePublisher} {i : Nat} :
    i ∈ pendingIds p ↔ ∃ f ∈ p.pending, i ∈ f.entries.map (·.id) := by
  cases hp : p.pending <;> simp [pendingIds, hp]

theorem isListed_iff (palms : Bool) (p : FramePublisher) (e : Entry) :
    isListed palms (pendingIds p) p.shown e = true ↔ Listed palms p e := by
  simp only [isListed, Listed, Bool.or_eq_true, Bool.and_eq_true, beq_iff_eq, bne_iff_ne, List.contains_iff_mem,
    mem_pendingIds, or_assoc]

/-- Whether an entry is listed depends on the shown-undecided set at its own id alone. -/
theorem isListed_congr {palms : Bool} {held a b : List Nat} {e : Entry} (h : e.id ∈ a ↔ e.id ∈ b) :
    isListed palms held a e = isListed palms held b e := by
  have hcontains : a.contains e.id = b.contains e.id := Bool.eq_iff_iff.2 (by simpa using h)
  simp only [isListed, hcontains]

/-- Whether an entry's id is shown undecided after it (R176). -/
def ShowsEntry (palms : Bool) (held shown : List Nat) (e : Entry) : Prop :=
  e.flags.left = false ∧ if isListed palms held shown e then e.cls = .undecided else e.id ∈ shown

theorem showsEntry_congr {palms : Bool} {held a b : List Nat} {e : Entry} (h : e.id ∈ a ↔ e.id ∈ b) :
    ShowsEntry palms held a e ↔ ShowsEntry palms held b e := by
  simp only [ShowsEntry, isListed_congr h, h]

theorem mem_showEntry_of_ne {palms : Bool} {held shown : List Nat} {e : Entry} {i : Nat} (h : i ≠ e.id) :
    i ∈ showEntry palms held shown e ↔ i ∈ shown := by
  unfold showEntry
  (repeat' split) <;> simp [h]

theorem mem_showEntry_self (palms : Bool) (held shown : List Nat) (e : Entry) :
    e.id ∈ showEntry palms held shown e ↔ ShowsEntry palms held shown e := by
  unfold showEntry ShowsEntry
  cases e.flags.left <;> cases isListed palms held shown e <;> by_cases hcls : e.cls = .undecided <;>
    by_cases hshown : e.id ∈ shown <;> simp [hcls, hshown]

theorem mem_shown_of_absent {palms : Bool} {held : List Nat} {l : List Entry} {i : Nat} (shown : List Nat)
    (h : ∀ e ∈ l, e.id ≠ i) : i ∈ l.foldl (showEntry palms held) shown ↔ i ∈ shown := by
  induction l generalizing shown with
  | nil => rfl
  | cons a l ih =>
    rw [List.foldl_cons, ih _ fun e he => h e (List.mem_cons_of_mem a he)]
    exact mem_showEntry_of_ne (h a List.mem_cons_self).symm

theorem mem_shown_of_mem {palms : Bool} {held : List Nat} {l : List Entry} {e : Entry} (shown : List Nat)
    (hnodup : (l.map fun e => e.id).Nodup) (he : e ∈ l) :
    e.id ∈ l.foldl (showEntry palms held) shown ↔ ShowsEntry palms held shown e := by
  induction l generalizing shown with
  | nil => cases he
  | cons a l ih =>
    rw [List.map_cons, List.nodup_cons] at hnodup
    obtain ⟨hnew, hnodup⟩ := hnodup
    have hother : ∀ x ∈ l, x.id ≠ a.id := fun x hx heq => hnew (heq ▸ List.mem_map_of_mem hx)
    obtain rfl | he := List.mem_cons.1 he
    · exact (mem_shown_of_absent _ hother).trans (mem_showEntry_self palms held shown e)
    · exact (ih _ hnodup he).trans (showsEntry_congr (mem_showEntry_of_ne (hother e he)))

theorem shownAfter (h : Handover) (held shown : List Nat) :
    ShownAfter h (h.entries.filter (isListed h.palms held shown)) shown
      (h.entries.foldl (showEntry h.palms held) shown) := by
  intro hnodup i
  refine ⟨mem_shown_of_absent shown, fun e he hi => ?_⟩
  subst hi
  have hmem := mem_shown_of_mem (palms := h.palms) (held := held) shown hnodup he
  refine ⟨fun hleft => ?_, fun hstays hlisted => ?_, fun hstays hunlisted => ?_⟩
  · simp [hmem, ShowsEntry, hleft]
  · simp [hmem, ShowsEntry, hstays, (List.mem_filter.1 hlisted).2]
  · simp [hmem, ShowsEntry, hstays, he, List.mem_filter] at hunlisted ⊢
    simp [hunlisted]

/-- A handover taken (R176 to R180). -/
theorem takeHandover_taken (sf : Surface) (fenced : Bool) (now : Time) (created : BitVec 32) (h : Handover)
    (p : FramePublisher) : HandoverTaken sf fenced now created h p (takeHandover sf fenced now created h p) := by
  refine ⟨h.entries.filter (isListed h.palms (pendingIds p) p.shown), List.filter_sublist, fun e he => ?_, rfl, rfl, rfl,
    rfl, shownAfter h (pendingIds p) p.shown, ?_, fun hp => ⟨fun hempty hidle hmarker => ?_, fun hoffer => ?_⟩,
    fun f hf => ?_⟩
  · simp [List.mem_filter, he, isListed_iff]
  · simp [takeHandover]
  · simp [takeHandover, hp, hempty, hidle, hmarker]
  · have hcond : (h.idle || !(h.entries.filter (isListed h.palms (pendingIds p) p.shown)).isEmpty || p.idle) = true := by
      simpa [List.isEmpty_iff, or_left_comm, or_assoc] using hoffer
    simp only [takeHandover, hp, hcond, if_true]
    rfl
  · simp only [takeHandover, hf]

/-! ### Merging (R179) -/

/-- The ids of entries. -/
def entryIds (l : List Entry) : List Nat := l.map (·.id)

theorem limitEntry_eq (h : Handover) (e : Entry) : limitEntry h.rangeX h.rangeY e = limitedEntry h e := rfl

theorem mem_insertEntry {c : BitVec 32} {e x : Entry} {l : List Entry} : x ∈ insertEntry c e l ↔ x = e ∨ x ∈ l := by
  induction l with
  | nil => simp [insertEntry]
  | cons a l ih =>
    rw [insertEntry]
    split
    · simp
    · simp only [List.mem_cons, ih]
      tauto

theorem mergeListed_of_held {c : BitVec 32} {held : List Entry} {e : Entry} (h : e.id ∈ entryIds held) :
    mergeListed c held e = held.map fun y => if y.id = e.id then mergeEntry y e else y := by
  rw [mergeListed, if_pos]
  simpa [entryIds] using h

theorem mergeListed_of_new {c : BitVec 32} {held : List Entry} {e : Entry} (h : e.id ∉ entryIds held) :
    mergeListed c held e = insertEntry c e held := by
  rw [mergeListed, if_neg]
  simpa [entryIds] using h

/-- A merge keeps the ids of what is held. -/
theorem entryIds_merged {held : List Entry} {e : Entry} :
    entryIds (held.map fun y => if y.id = e.id then mergeEntry y e else y) = entryIds held := by
  rw [entryIds, List.map_map]
  refine List.map_congr_left fun y _ => ?_
  by_cases h : y.id = e.id <;> simp [h, mergeEntry]

theorem mem_entryIds_mergeListed {c : BitVec 32} {held : List Entry} {e : Entry} {i : Nat} :
    i ∈ entryIds (mergeListed c held e) ↔ i ∈ entryIds held ∨ i = e.id := by
  by_cases h : e.id ∈ entryIds held
  · rw [mergeListed_of_held h, entryIds_merged]
    exact ⟨.inl, fun hi => hi.elim id fun heq => heq ▸ h⟩
  · rw [mergeListed_of_new h]
    simp only [entryIds, List.mem_map, mem_insertEntry]
    constructor
    · rintro ⟨x, rfl | hx, rfl⟩
      · exact .inr rfl
      · exact .inl ⟨x, hx, rfl⟩
    · rintro (⟨x, hx, rfl⟩ | rfl)
      · exact ⟨x, .inr hx, rfl⟩
      · exact ⟨e, .inl rfl, rfl⟩

theorem mem_entryIds_fold {c : BitVec 32} {held listed : List Entry} {i : Nat} :
    i ∈ entryIds (listed.foldl (mergeListed c) held) ↔ i ∈ entryIds held ∨ i ∈ entryIds listed := by
  induction listed generalizing held with
  | nil => simp [entryIds]
  | cons a l ih =>
    rw [List.foldl_cons, ih, mem_entryIds_mergeListed, or_assoc]
    simp [entryIds]

/-- A held entry that no listed one names stays. -/
theorem mem_mergeListed_of_ne {c : BitVec 32} {held : List Entry} {e x : Entry} (hx : x ∈ held) (hne : x.id ≠ e.id) :
    x ∈ mergeListed c held e := by
  by_cases h : e.id ∈ entryIds held
  · rw [mergeListed_of_held h]
    exact List.mem_map.2 ⟨x, hx, if_neg hne⟩
  · rw [mergeListed_of_new h]
    exact mem_insertEntry.2 (.inr hx)

theorem mem_fold_of_kept {c : BitVec 32} {held listed : List Entry} {x : Entry} (hx : x ∈ held)
    (hnew : x.id ∉ entryIds listed) : x ∈ listed.foldl (mergeListed c) held := by
  induction listed generalizing held with
  | nil => exact hx
  | cons a l ih =>
    obtain ⟨hne, hrest⟩ := not_or.1 (mt List.mem_cons.2 hnew)
    exact ih (mem_mergeListed_of_ne hx hne) hrest

/-- A listed entry with a new id is added. -/
theorem mem_fold_of_new {c : BitVec 32} {held listed : List Entry} {e : Entry} (hnodup : (entryIds listed).Nodup)
    (he : e ∈ listed) (hnew : e.id ∉ entryIds held) : e ∈ listed.foldl (mergeListed c) held := by
  induction listed generalizing held with
  | nil => cases he
  | cons a l ih =>
    obtain ⟨ha, hl⟩ := List.nodup_cons.1 hnodup
    rw [List.foldl_cons]
    obtain rfl | he := List.mem_cons.1 he
    · refine mem_fold_of_kept ?_ ha
      rw [mergeListed_of_new hnew]
      exact mem_insertEntry.2 (.inl rfl)
    · refine ih hl he fun hmem => ?_
      obtain hmem | heq := mem_entryIds_mergeListed.1 hmem
      · exact hnew hmem
      · exact ha (List.mem_map.2 ⟨e, he, heq⟩)

/-- A listed entry whose id is held is merged into the held one. -/
theorem mem_fold_of_joined {c : BitVec 32} {held listed : List Entry} {e y : Entry} (hnodup : (entryIds listed).Nodup)
    (he : e ∈ listed) (hy : y ∈ held) (hid : y.id = e.id) : mergeEntry y e ∈ listed.foldl (mergeListed c) held := by
  induction listed generalizing held with
  | nil => cases he
  | cons a l ih =>
    obtain ⟨ha, hl⟩ := List.nodup_cons.1 hnodup
    rw [List.foldl_cons]
    obtain rfl | he := List.mem_cons.1 he
    · refine mem_fold_of_kept ?_ ha
      rw [mergeListed_of_held (List.mem_map.2 ⟨y, hy, hid⟩)]
      exact List.mem_map.2 ⟨y, hy, if_pos hid⟩
    · refine ih hl he (mem_mergeListed_of_ne hy fun heq => ha ?_)
      exact List.mem_map.2 ⟨e, he, hid.symm.trans heq⟩

/-- The held entries keep their places: those of the ids in a set stay as they were where a new id is not of it. -/
theorem filter_entryIds_insertEntry {c : BitVec 32} {e : Entry} {l : List Entry} {keep : Nat → Bool}
    (h : keep e.id = false) : (entryIds (insertEntry c e l)).filter keep = (entryIds l).filter keep := by
  induction l with
  | nil => simp [insertEntry, entryIds, h]
  | cons a l ih =>
    rw [insertEntry]
    split
    · simp [entryIds, h]
    · simp only [entryIds, List.map_cons, List.filter_cons] at ih ⊢
      rw [ih]

theorem filter_entryIds_fold {c : BitVec 32} {held listed : List Entry} {ids : List Nat}
    (hheld : (entryIds held).filter (fun i => decide (i ∈ ids)) = ids) :
    (entryIds (listed.foldl (mergeListed c) held)).filter (fun i => decide (i ∈ ids)) = ids := by
  induction listed generalizing held with
  | nil => exact hheld
  | cons a l ih =>
    refine ih ?_
    by_cases h : a.id ∈ entryIds held
    · rw [mergeListed_of_held h, entryIds_merged, hheld]
    · have hout : a.id ∉ ids := fun hin => h (List.mem_of_mem_filter (hheld.symm ▸ hin))
      rw [mergeListed_of_new h, filter_entryIds_insertEntry (by simpa using hout), hheld]

/-- Entries in creation order when the counter stands at `c` (R46). -/
def InOrder (c : BitVec 32) (l : List Entry) : Prop :=
  l.Pairwise fun a b => (c - b.number).toNat ≤ (c - a.number).toNat

theorem insertEntry_inOrder {c : BitVec 32} {l : List Entry} (e : Entry) (h : InOrder c l) :
    InOrder c (insertEntry c e l) := by
  induction l with
  | nil => exact List.pairwise_singleton _ _
  | cons a l ih =>
    obtain ⟨ha, hl⟩ := List.pairwise_cons.1 h
    rw [insertEntry]
    split
    next holder =>
      have hlt : (c - a.number).toNat < (c - e.number).toNat := of_decide_eq_true holder
      refine List.pairwise_cons.2 ⟨fun x hx => ?_, h⟩
      obtain rfl | hx := List.mem_cons.1 hx
      · exact hlt.le
      · exact (ha x hx).trans hlt.le
    next hyounger =>
      have hle : (c - e.number).toNat ≤ (c - a.number).toNat := not_lt.1 fun hlt => hyounger (decide_eq_true hlt)
      refine List.pairwise_cons.2 ⟨fun x hx => ?_, ih hl⟩
      obtain rfl | hx := mem_insertEntry.1 hx
      · exact hle
      · exact ha x hx

/-- A change that keeps the creation numbers keeps their order. -/
theorem inOrder_map {c : BitVec 32} {l : List Entry} {g : Entry → Entry} (hg : ∀ e, (g e).number = e.number)
    (h : InOrder c l) : InOrder c (l.map g) := by
  refine List.pairwise_map.2 (h.imp fun hle => ?_)
  simpa only [hg] using hle

theorem fold_inOrder {c : BitVec 32} {held : List Entry} (listed : List Entry) (h : InOrder c held) :
    InOrder c (listed.foldl (mergeListed c) held) := by
  induction listed generalizing held with
  | nil => exact h
  | cons a l ih =>
    refine ih ?_
    by_cases hmem : a.id ∈ entryIds held
    · rw [mergeListed_of_held hmem]
      refine inOrder_map (fun y => ?_) h
      split <;> rfl
    · rw [mergeListed_of_new hmem]
      exact insertEntry_inOrder a h

theorem mergeFrame_entries (c : BitVec 32) (listed : List Entry) (h : Handover) (f : PendingFrame) :
    (mergeFrame c listed h f).entries = (listed.foldl (mergeListed c) f.entries).map (limitedEntry h) := rfl

theorem entryIds_limited (h : Handover) (l : List Entry) : entryIds (l.map (limitedEntry h)) = entryIds l := by
  rw [entryIds, List.map_map]
  rfl

theorem within_bounds (top : Nat) (v : Int) : 0 ≤ within top v ∧ within top v ≤ top := by
  unfold within
  omega

/-- A handover merged into the pending frame (R179). -/
theorem mergeFrame_merged {created : BitVec 32} {listed : List Entry} {h : Handover} {f : PendingFrame}
    (hlisted : (entryIds listed).Nodup) : Merged created listed h f (mergeFrame created listed h f) := by
  have hids : entryIds (mergeFrame created listed h f).entries = entryIds (listed.foldl (mergeListed created) f.entries) :=
    entryIds_limited h _
  refine ⟨?_, fun horder => ?_, rfl, rfl, rfl, rfl, fun i => ?_, fun e he => ?_, fun e he hnew => ?_, fun e he hnew => ?_,
    fun e he held hheld hid => ?_⟩
  · rw [show (mergeFrame created listed h f).entries.map (fun e => e.id) = _ from hids]
    exact filter_entryIds_fold (List.filter_eq_self.2 fun i hi => decide_eq_true hi)
  · exact inOrder_map (fun _ => rfl) (fold_inOrder listed horder)
  · rw [show (mergeFrame created listed h f).entries.map (fun e => e.id) = _ from hids]
    exact mem_entryIds_fold
  · obtain ⟨x, -, rfl⟩ := List.mem_map.1 he
    obtain ⟨hx0, hxr⟩ := within_bounds h.rangeX x.pos.x
    obtain ⟨hy0, hyr⟩ := within_bounds h.rangeY x.pos.y
    exact ⟨hx0, hxr, hy0, hyr⟩
  · exact List.mem_map_of_mem (f := limitedEntry h) (mem_fold_of_kept he hnew)
  · exact List.mem_map_of_mem (f := limitedEntry h) (mem_fold_of_new hlisted he hnew)
  · exact List.mem_map_of_mem (f := limitedEntry h) (mem_fold_of_joined hlisted he hheld hid)

/-! ### The cut (R180) -/

/-- An entry that has left and was never confirmed. -/
def isNeverConfirmed (e : Entry) : Bool := e.flags.left && !e.confirmed

/-- An entry that has left and was confirmed. -/
def isOnceConfirmed (e : Entry) : Bool := e.flags.left && e.confirmed

theorem removeFirst_sublist (test : Entry → Bool) (l : List Entry) : (removeFirst test l).Sublist l := by
  induction l with
  | nil => exact .slnil
  | cons a l ih =>
    rw [removeFirst]
    split
    · exact List.sublist_cons_self a l
    · exact ih.cons_cons a

theorem filter_removeFirst_self (test : Entry → Bool) (l : List Entry) :
    (removeFirst test l).filter test = (l.filter test).tail := by
  induction l with
  | nil => rfl
  | cons a l ih =>
    by_cases h : test a = true
    · simp [removeFirst, h]
    · simp [removeFirst, h, ih]

theorem filter_removeFirst_other {test keep : Entry → Bool} (h : ∀ e, test e = true → keep e = false) (l : List Entry) :
    (removeFirst test l).filter keep = l.filter keep := by
  induction l with
  | nil => rfl
  | cons a l ih =>
    by_cases ha : test a = true
    · simp [removeFirst, ha, h a ha]
    · simp [removeFirst, ha, List.filter_cons, ih]

theorem removeFirst_congr {test other : Entry → Bool} {l : List Entry} (h : ∀ e ∈ l, test e = other e) :
    removeFirst test l = removeFirst other l := by
  induction l with
  | nil => rfl
  | cons a l ih =>
    rw [removeFirst, removeFirst, h a List.mem_cons_self, ih fun e he => h e (List.mem_cons_of_mem a he)]

theorem dropLeft_of_never {l : List Entry} (h : l.filter isNeverConfirmed ≠ []) :
    dropLeft l = removeFirst isNeverConfirmed l := by
  rw [dropLeft, if_pos]
  · rfl
  · obtain ⟨e, he⟩ := List.exists_mem_of_ne_nil _ h
    exact List.any_eq_true.2 ⟨e, (List.mem_filter.1 he).1, (List.mem_filter.1 he).2⟩

theorem dropLeft_of_sure {l : List Entry} (h : l.filter isNeverConfirmed = []) :
    dropLeft l = removeFirst isOnceConfirmed l := by
  have hnone : ∀ e ∈ l, isNeverConfirmed e = false := fun e he => by
    simpa using List.filter_eq_nil_iff.1 h e he
  rw [dropLeft, if_neg]
  · refine removeFirst_congr fun e he => ?_
    have hnever := hnone e he
    simp only [isNeverConfirmed] at hnever
    cases hleft : e.flags.left <;> simp_all [isOnceConfirmed]
  · rw [Bool.not_eq_true, List.any_eq_false]
    exact fun e he => by simpa [isNeverConfirmed] using hnone e he

theorem dropLeft_cases (l : List Entry) :
    (dropLeft l).Sublist l ∧ (dropLeft l).filter (fun e => !e.flags.left) = l.filter (fun e => !e.flags.left) ∧
    (dropLeft l).filter isNeverConfirmed = (l.filter isNeverConfirmed).tail ∧
    (dropLeft l).filter isOnceConfirmed =
      (l.filter isOnceConfirmed).drop (1 - (l.filter isNeverConfirmed).length) := by
  by_cases h : l.filter isNeverConfirmed = []
  · rw [dropLeft_of_sure h, h]
    refine ⟨removeFirst_sublist _ l, filter_removeFirst_other (fun e he => ?_) l, ?_, ?_⟩
    · simp_all [isOnceConfirmed]
    · rw [filter_removeFirst_other (fun e he => by simp_all [isOnceConfirmed, isNeverConfirmed]), h]
      rfl
    · rw [filter_removeFirst_self]
      simp
  · have hpos := List.length_pos_of_ne_nil h
    rw [dropLeft_of_never h]
    refine ⟨removeFirst_sublist _ l, filter_removeFirst_other (fun e he => ?_) l, filter_removeFirst_self _ l, ?_⟩
    · simp_all [isNeverConfirmed]
    · rw [filter_removeFirst_other (fun e he => by simp_all [isOnceConfirmed, isNeverConfirmed]),
        Nat.sub_eq_zero_of_le hpos]
      rfl

theorem dropLefts_cases (n : Nat) (l : List Entry) :
    (dropLefts n l).Sublist l ∧ (dropLefts n l).filter (fun e => !e.flags.left) = l.filter (fun e => !e.flags.left) ∧
    (dropLefts n l).filter isNeverConfirmed = (l.filter isNeverConfirmed).drop n ∧
    (dropLefts n l).filter isOnceConfirmed =
      (l.filter isOnceConfirmed).drop (n - (l.filter isNeverConfirmed).length) := by
  induction n generalizing l with
  | zero => exact ⟨.refl l, rfl, rfl, by simp [dropLefts]⟩
  | succ n ih =>
    obtain ⟨hsub, hstay, hnever, hsure⟩ := ih (dropLeft l)
    obtain ⟨hsub', hstay', hnever', hsure'⟩ := dropLeft_cases l
    refine ⟨hsub.trans hsub', hstay.trans hstay', ?_, ?_⟩
    · rw [dropLefts, hnever, hnever', ← List.drop_one, List.drop_drop, Nat.add_comm]
    · rw [dropLefts, hsure, hsure', hnever', List.drop_drop, List.length_tail]
      congr 1
      omega

theorem length_left (l : List Entry) :
    (l.filter fun e => e.flags.left).length = (l.filter isNeverConfirmed).length + (l.filter isOnceConfirmed).length := by
  have hsplit := List.length_eq_length_filter_add (l := l.filter fun e => e.flags.left) fun e => !e.confirmed
  have hnever : (fun e : Entry => (!e.confirmed) && e.flags.left) = isNeverConfirmed := by
    funext e
    exact Bool.and_comm ..
  have hsure : (fun e : Entry => (!(!e.confirmed)) && e.flags.left) = isOnceConfirmed := by
    funext e
    rw [Bool.not_not, Bool.and_comm]
    rfl
  rwa [List.filter_filter, List.filter_filter, hnever, hsure] at hsplit

/-- A list's length by what has not left, what left unconfirmed and what left confirmed. -/
theorem length_by_left (l : List Entry) : l.length =
    (l.filter fun e => !e.flags.left).length + (l.filter isNeverConfirmed).length + (l.filter isOnceConfirmed).length := by
  have hsplit := List.length_eq_length_filter_add (l := l) fun e => e.flags.left
  have hleft := length_left l
  omega

theorem cutFrame_cutTo (n : Nat) (f : PendingFrame) : CutTo n f (cutFrame n f) := by
  by_cases h : f.entries.length ≤ n
  · rw [cutFrame, if_pos h]
    refine ⟨fun _ => rfl, fun hlt => absurd h (by omega), .refl _, rfl, fun _ => by omega, ?_⟩
    simp [Nat.sub_eq_zero_of_le h]
  · obtain ⟨hsub, hstay, hnever, hsure⟩ := dropLefts_cases (f.entries.length - n) f.entries
    rw [cutFrame, if_neg h]
    refine ⟨fun hle => absurd hle h, fun _ => rfl, hsub, hstay, fun henough => ?_, hnever, hsure⟩
    have hbefore := length_by_left f.entries
    have hafter := length_by_left (dropLefts (f.entries.length - n) f.entries)
    rw [hstay, hnever, hsure, List.length_drop, List.length_drop] at hafter
    rw [length_left] at henough
    show (dropLefts (f.entries.length - n) f.entries).length = min n f.entries.length
    omega

end Sys2Proof.Machine
end

section
/-! Frame slots and pen slots (R178, R181). -/

namespace Sys2Proof.Machine

/-! ### What the slots hold (Tables 8-8, 8-9) -/

theorem penFields_contiguous (q : PenSample) (merged : Nat) : Contiguous 0 (penFields q merged) := by
  simp [Contiguous, penFields]

theorem penSlotCells_writes (r : Registers) (index merged : Nat) (q : PenSample) :
    RecordWrites r (0x0C00 + 64 * index) (penFields q merged) 1 (penSlotCells r index q merged) :=
  recordWrites_of_bytes (penFields_contiguous q merged) (penSlotBytes_eq q merged) (by simp [stampBytes_eq, signed2_eq])

theorem headerFields_contiguous (count : Nat) (f : PendingFrame) : Contiguous 0 (headerFields count f) := by
  simp [Contiguous, headerFields]

/-- The fields of a slot's entries from the k-th on. -/
def slotFields (k : Nat) (l : List Entry) : List (Nat × Nat × Nat) := (l.zipIdx k).flatMap fun q => entryFields q.2 q.1

theorem slotFields_cons (k : Nat) (e : Entry) (l : List Entry) :
    slotFields k (e :: l) = entryFields k e ++ slotFields (k + 1) l := rfl

theorem slotFields_contiguous (k : Nat) (l : List Entry) : Contiguous (32 + 24 * k) (slotFields k l) := by
  induction l generalizing k with
  | nil => trivial
  | cons e l ih =>
    have hnext := ih (k + 1)
    rw [show 32 + 24 * (k + 1) = 32 + 24 * k + 24 by omega] at hnext
    simp only [slotFields_cons, entryFields, List.cons_append, List.nil_append, Contiguous]
    simpa [Nat.add_assoc] using hnext

theorem slotFields_bytes (k : Nat) (l : List Entry) :
    (slotFields k l).flatMap fieldBytes = (l.map entryBytes).flatten := by
  induction l generalizing k with
  | nil => rfl
  | cons e l ih => rw [slotFields_cons, List.flatMap_append, ih, List.map_cons, List.flatten_cons, ← entryBytes_eq]

theorem entryBytes_length (e : Entry) : (entryBytes e).length = 24 := by simp [entryBytes, signed2_eq]

theorem headerBytes_length (count : Nat) (f : PendingFrame) : (headerBytes count f).length = 32 := by
  simp [headerBytes, stampBytes_eq]

theorem slotBytes_length (l : List Entry) : ((l.map entryBytes).flatten).length = 24 * l.length := by
  induction l with
  | nil => rfl
  | cons e l ih => simp [entryBytes_length, ih]; omega

theorem layout_append (r : Registers) (start : Nat) (a b : List (Nat × Nat × Nat)) :
    layout r start (a ++ b) = layout r start a ++ layout r start b := List.flatMap_append

theorem frameSlotOffset_eq (sf : Surface) (index : Nat) :
    frameSlotOffset sf index = if sf = .pad then 0x1000 + 256 * index else 0x1400 + 512 * index := by
  cases sf <;> rfl

/-- A frame slot is written entries first, its state byte last (R178). -/
theorem frameSlotCells_writes (r : Registers) (sf : Surface) (index count : Nat) (f : PendingFrame)
    (h : f.entries.length ≤ 16) : SlotWrites r sf index count f (frameSlotCells r sf index count f) := by
  have hentries : layout r (frameSlotOffset sf index) (slotFields 0 f.entries) =
      cellsAt r (frameSlotOffset sf index + 32) ((f.entries.map entryBytes).flatten) := by
    rw [layout_of_contiguous _ _ _ _ (slotFields_contiguous 0 f.entries), slotFields_bytes]
  have hheader : layout r (frameSlotOffset sf index) (headerFields count f) =
      cellsAt r (frameSlotOffset sf index) (headerBytes count f) := by
    rw [layout_of_contiguous _ _ 0 _ (headerFields_contiguous count f), headerBytes_eq]
    rfl
  have hcells : frameSlotCells r sf index count f =
      layout r (frameSlotOffset sf index) (slotFields 0 f.entries) ++
        stateLast (cellsAt r (frameSlotOffset sf index) (headerBytes count f)) := by
    rw [hentries]
    rfl
  have hperm : (frameSlotCells r sf index count f).Perm
      (cellsAt r (frameSlotOffset sf index) (headerBytes count f ++ (f.entries.map entryBytes).flatten)) := by
    rw [hcells, hentries, cellsAt_append, headerBytes_length]
    exact List.perm_append_comm.trans ((stateLast_perm _).append_right _)
  unfold SlotWrites
  rw [← frameSlotOffset_eq]
  refine ⟨⟨?_, ?_, ?_⟩, _, hcells⟩
  · rw [layout_append, hcells, hheader]
    exact (stateLast_perm _).append_left _
  · refine (hperm.map _).nodup_iff.2 (cellsAt_nodup r _ _ ?_)
    rw [List.length_append, headerBytes_length, slotBytes_length]
    omega
  · rw [hcells, headerBytes, List.cons_append, List.cons_append, cellsAt_cons,
      List.getLast?_append_of_ne_nil, stateLast_getLast]
    · rfl
    · simp [stateLast]

/-! ### Accesses of the slots -/

theorem resumeFrames_of_nil {s : State} {sf : Surface} (h : (surfaceOf s sf).publisher.handed = []) :
    resumeFrames s sf = withSurface s sf { surfaceOf s sf with
      publisher := { (surfaceOf s sf).publisher with access := .none } } := by
  simp only [resumeFrames, h, runFrames]

theorem resumeSamples_of_nil {s : State} (h : s.penOut.handed = []) :
    resumeSamples s = { s with penOut := { s.penOut with access := .none } } := by
  simp only [resumeSamples, h, runSamples]

theorem readFrameSlot_of_offer {s : State} {sf : Surface} {since : Time} {c : PendingFrame} (byte : Byte)
    (haccess : (surfaceOf s sf).publisher.access = .reading since)
    (hpending : (surfaceOf s sf).publisher.pending = some c) :
    readFrameSlot sf byte s =
      if byte = 0 then withSurface s sf { surfaceOf s sf with publisher := { (surfaceOf s sf).publisher with
        access := .writing (frameSlotCells s.regs sf (surfaceOf s sf).publisher.index (surfaceOf s sf).publisher.count c) } }
      else resumeFrames s sf := by
  simp only [readFrameSlot, haccess, hpending]

theorem readPenSlot_of_offer {s : State} {since : Time} {q : PenSample} {merged : Nat} (byte : Byte)
    (haccess : s.penOut.access = .reading since) (hpending : s.penOut.pending = some (q, merged)) :
    readPenSlot byte s =
      if byte = 0 then { s with penOut := { s.penOut with
        access := .writing (penSlotCells s.regs s.penOut.index q merged) } }
      else resumeSamples s := by
  simp only [readPenSlot, haccess, hpending]

theorem failFrameWrite_eq {s : State} {sf : Surface} {cells : List Host.Cell} {offset : BitVec 32}
    (h : (surfaceOf s sf).publisher.access = .writing cells) (hwrites : WritesAt s offset cells) :
    failFrameWrite sf offset.toNat s = withSurface
      { failed s (frameStream sf) true offset.toNat with area := landedImage s s.area offset cells } sf
      { surfaceOf s sf with publisher := fencedFrames sf s } := by
  simp only [failFrameWrite, h]
  rw [if_pos ((writesAt_eq_true_iff s offset cells).2 hwrites), failStream_putCells, writeBytes_landedBefore]
  exact resumeFrames_of_failed s sf true offset.toNat _

theorem failPenWrite_eq {s : State} {cells : List Host.Cell} {offset : BitVec 32}
    (h : s.penOut.access = .writing cells) (hwrites : WritesAt s offset cells) :
    failPenWrite offset.toNat s = { failed s .pen true offset.toNat with
      area := landedImage s s.area offset cells, penOut := fencedSamples s } := by
  simp only [failPenWrite, h]
  rw [if_pos ((writesAt_eq_true_iff s offset cells).2 hwrites), failStream_putCells, writeBytes_landedBefore]
  exact resumeSamples_of_failed s true offset.toNat _

/-- A frame published, nothing waiting for its access (R178). -/
theorem publishFrame_of_nil {s : State} {sf : Surface} {cells : List Host.Cell}
    (h : (surfaceOf s sf).publisher.access = .writing cells) (hhanded : (surfaceOf s sf).publisher.handed = []) :
    publishFrame sf s = { withSurface s sf { surfaceOf s sf with publisher := { (surfaceOf s sf).publisher with
        pending := none, access := .none
        count := ((surfaceOf s sf).publisher.count + 1) % 128
        index := ((surfaceOf s sf).publisher.index + 1) % 4 } } with
      regs := { s.regs with causes := s.regs.causes ||| (if sf = .pad then 0x01#7 else 0x02#7) }
      area := writeBytes s.area cells } := by
  simp only [publishFrame, h]
  cases sf <;> exact (resumeFrames_of_nil (by exact hhanded)).trans rfl

theorem publishSample_of_nil {s : State} {cells : List Host.Cell} (h : s.penOut.access = .writing cells)
    (hhanded : s.penOut.handed = []) :
    publishSample s = { s with
      penOut := { s.penOut with pending := none, access := .none, index := (s.penOut.index + 1) % 8 }
      regs := { s.regs with causes := s.regs.causes ||| 0x04#7 }
      area := writeBytes s.area cells } := by
  simp only [publishSample, h]
  exact (resumeSamples_of_nil (by exact hhanded)).trans rfl

theorem handSamples_of_idle {s : State} (q : PenSample) (haccess : s.penOut.access = .none)
    (hhanded : s.penOut.handed = []) :
    (handSamples s [q]).penOut = { s.penOut with
      pending := some (mergeSample q s.penOut.pending)
      access := if s.regs.fenced.pen then .none else .reading s.clock } := by
  rw [handSamples, hhanded, List.nil_append, runSamples, if_pos haccess, runSamples, ← hhanded]

/-- Settles O57. -/
theorem slotsArePublished : Obligations.SlotsArePublished := by
  refine ⟨takeHandover_taken, fun _ _ _ _ hlisted _ => mergeFrame_merged hlisted, cutFrame_cutTo, frameSlotCells_writes,
    penSlotCells_writes, fun s q haccess hhanded => ?_, fun s sf cells offset h hwrites => ?_,
    fun s cells offset h hwrites => congrArg _ (failPenWrite_eq h hwrites), fun s sf since c byte haccess hpending => ?_,
    fun s sf cells h hhanded => ?_, fun s since q merged byte haccess hpending => ?_, fun s cells h hhanded => ?_⟩
  · rw [handSamples_of_idle q haccess hhanded]
    cases s.penOut.pending <;> rfl
  · exact congrArg _ (failFrameWrite_eq h hwrites)
  · refine ⟨fun hfree => ?_, fun hfull hhanded => ?_⟩
    · exact congrArg _ ((readFrameSlot_of_offer byte haccess hpending).trans (if_pos hfree))
    · exact congrArg _ ((readFrameSlot_of_offer byte haccess hpending).trans
        ((if_neg hfull).trans (resumeFrames_of_nil hhanded)))
  · intro u
    refine ⟨_, exec_eq (.frameSlotPublished sf) s, ?_⟩
    rw [show nextState (.frameSlotPublished sf) s = _ from publishFrame_of_nil h hhanded]
    exact ⟨rfl, writtenThereAlone _ _⟩
  · refine ⟨fun hfree => ?_, fun hfull hhanded => ?_⟩
    · exact congrArg _ ((readPenSlot_of_offer byte haccess hpending).trans (if_pos hfree))
    · exact congrArg _ ((readPenSlot_of_offer byte haccess hpending).trans
        ((if_neg hfull).trans (resumeSamples_of_nil hhanded)))
  · refine ⟨_, exec_eq .penSlotPublished s, ?_⟩
    rw [show nextState .penSlotPublished s = _ from publishSample_of_nil h hhanded]
    exact ⟨rfl, writtenThereAlone _ _⟩

end Sys2Proof.Machine
end

section
/-! The loads (R149 to R156): parameters by number, list entries, the checks of a bank, and zone records. -/

namespace Sys2Proof.Machine

/-! ### Parameters by number (Tables 7-3 to 7-5, R150) -/

/-- The numbers of the gains, whose values are unsigned (R150). -/
def gainNumbers : List Nat := [107, 108, 207, 208, 307, 308]

/-- The parameter that a row of the tables describes. -/
def rowParameter (row : ParameterRow) : Parameter :=
  { lo := row.2.1, hi := row.2.2.1, wide := decide (row.1 ∈ gainNumbers), set := row.2.2.2 }

theorem parameterOf_rows : parameterRows.map (fun row => parameterOf row.1) =
    parameterRows.map (fun row => some (rowParameter row)) := rfl

theorem parameterOf_row {row : ParameterRow} (h : row ∈ parameterRows) : parameterOf row.1 = some (rowParameter row) :=
  List.map_inj_left.1 parameterOf_rows row h

/-- A number at or above 500 names no parameter. -/
theorem parameterOf_of_large {n : Nat} (h : 500 ≤ n) : parameterOf n = none := by
  have hsection : 5 ≤ n / 100 := by omega
  unfold parameterOf
  split <;> first | rfl | omega

theorem parameterOf_small : ∀ n < 500, (parameterOf n).isSome = true → n ∈ parameterRows.map (fun row => row.1) := by
  decide +kernel

theorem parameterOf_unknown {n : Nat} (h : ∀ row ∈ parameterRows, row.1 ≠ n) : parameterOf n = none := by
  obtain hlt | hge := Nat.lt_or_ge n 500
  · refine Option.not_isSome_iff_eq_none.1 fun hsome => ?_
    obtain ⟨row, hrow, heq⟩ := List.mem_map.1 (parameterOf_small n hlt hsome)
    exact h row hrow heq
  · exact parameterOf_of_large hge

theorem rows_ranges : ∀ row ∈ parameterRows, row.2.1 ≤ row.2.2.1 := by decide +kernel

theorem limitTo_eq_self_iff {lo hi v : Int} (h : lo ≤ hi) : limitTo lo hi v = v ↔ lo ≤ v ∧ v ≤ hi := by
  unfold limitTo
  omega

/-- One list entry applied (R150, R152). -/
theorem applyEntry_applied (g : Staging) (e : BitVec 64) : EntryApplied g e (applyEntry g e) := by
  refine ⟨fun hno => ?_, fun row hrow hnumber => ?_⟩
  · have hnone : parameterOf (word32At e 0).toNat = none := parameterOf_unknown hno
    simp only [applyEntry, hnone]
  · have hsome : parameterOf (word32At e 0).toNat = some (rowParameter row) := by
      rw [← parameterOf_row hrow, hnumber]
      rfl
    have hvalue : entryValue (rowParameter row) (word32At e 4) =
        if (e.extractLsb' 0 32).toNat ∈ [107, 108, 207, 208, 307, 308] then ((e.extractLsb' 32 32).toNat : Int)
        else (e.extractLsb' 32 32).toInt := by
      rw [← hnumber]
      by_cases hgain : row.1 ∈ gainNumbers
      · have hwide : (rowParameter row).wide = true := decide_eq_true hgain
        exact (if_pos hwide).trans (if_pos hgain).symm
      · have hnarrow : ¬(rowParameter row).wide = true := by simpa [rowParameter] using hgain
        exact (if_neg hnarrow).trans (if_neg hgain).symm
    have hclamp (v : Int) : (if limitTo (rowParameter row).lo (rowParameter row).hi v = v then g.clamped
        else g.clamped + 1) = if row.2.1 ≤ v ∧ v ≤ row.2.2.1 then g.clamped else g.clamped + 1 :=
      if_congr (limitTo_eq_self_iff (rows_ranges row hrow)) rfl rfl
    simp only [applyEntry, hsome, hvalue, hclamp]
    rfl

/-! ### The first test met (R153, R75 to R80) -/

theorem firstMet_cons {α : Type} (b : Bool) (a : α) (l : List (Bool × α)) :
    firstMet ((b, a) :: l) = if b then some a else firstMet l := by
  cases b <;> rfl

/-- The tests of the model say what those of the statement do, in the same order. -/
theorem firstMet_of_tests {α : Type} {tests : List (Prop × α)} {l : List (Bool × α)}
    (h : List.Forall₂ (fun t b => (t.1 ↔ b.1 = true) ∧ t.2 = b.2) tests l) : FirstMet tests (firstMet l) := by
  induction h with
  | nil => rfl
  | @cons t b tests l hhead htail ih =>
    obtain ⟨htest, hvalue⟩ := hhead
    obtain ⟨test, a⟩ := t
    obtain ⟨b, c⟩ := b
    obtain rfl : a = c := hvalue
    refine ⟨fun hmet => ?_, fun hnot => ?_⟩
    · rw [firstMet_cons, if_pos (htest.1 hmet)]
    · rw [firstMet_cons, if_neg (fun hb => hnot (htest.2 hb))]
      exact ih

theorem structureFault_checked (b : Bank) : StructureChecked b (structureFault b) := by
  refine firstMet_of_tests (.cons ⟨?_, rfl⟩ (.cons ⟨?_, rfl⟩ (.cons ⟨?_, rfl⟩ (.cons ⟨?_, rfl⟩ .nil))))
  · simp only [Bool.not_eq_true', Bool.and_eq_false_iff, decide_eq_false_iff_not]
    tauto
  · simp
  · simp
  · simp

/-! ### LOAD_BANK on a list read whole (R151 to R153) -/

theorem foldl_applyEntry_count (entries : List (BitVec 64)) (g : Staging) :
    (entries.foldl applyEntry g).count = g.count ∧ (entries.foldl applyEntry g).applied = g.applied + entries.length := by
  induction entries generalizing g with
  | nil => exact ⟨rfl, rfl⟩
  | cons e entries ih =>
    obtain ⟨hcount, happlied⟩ := ih (applyEntry g e)
    have hone : (applyEntry g e).count = g.count ∧ (applyEntry g e).applied = g.applied + 1 := by
      unfold applyEntry
      split <;> exact ⟨rfl, rfl⟩
    rw [List.foldl_cons, hcount, happlied, hone.1, hone.2, List.length_cons]
    exact ⟨rfl, by omega⟩

/-- The bytes of two counts, in the result data of LOAD_BANK. -/
theorem bankCounts_eq (a b : Nat) : bankCounts a b =
    [BitVec.ofNat 8 a, BitVec.ofNat 8 (a / 256), BitVec.ofNat 8 b, BitVec.ofNat 8 (b / 256)] ++ List.replicate 28 0 := by
  have hbytes (v : Nat) : leBytes 2 v = [BitVec.ofNat 8 v, BitVec.ofNat 8 (v / 256)] := by
    simp [leBytes, List.range_succ]
  rw [bankCounts, hbytes, hbytes]
  rfl

theorem bankOfCode_of_code {n : Nat} {i : BankId} (h : n = if i = .a then 0 else 1) : bankOfCode n = i := by
  subst h
  cases i <;> rfl

theorem withStaging_of_none {s : State} (h : s.posture.staging = none) : withStaging none s = s := by
  rw [withStaging, ← h]

theorem withZoneStaging_of_none {s : State} (h : s.posture.zoneStaging = none) : withZoneStaging none s = s := by
  rw [withZoneStaging, ← h]

theorem loadBank_of_bad {s : State} {f : InFlight} {data : List (BitVec 64)} (hnone : s.posture.staging = none)
    (h : ¬OffsetAccepted (recordOffset f.record) 8) :
    loadBank data f s = finish resultBadOffset 0 (bankCounts 0 0) f s := by
  have hbad : offsetValid (recordOffset f.record) 8 = false := Bool.eq_false_iff.2 ((offsetValid_iff _ _).not.2 h)
  simp [loadBank, hnone, hbad]

theorem loadBank_of_head {s : State} {f : InFlight} {head : BitVec 64} {entries : List (BitVec 64)} {i : BankId}
    (hnone : s.posture.staging = none) (hi : bankOfCode (numAt f.record 4) = i)
    (h : OffsetAccepted (recordOffset f.record) 8) :
    loadBank (head :: entries) f s = readHead i (recordOffset f.record) head entries f s := by
  have hgood : offsetValid (recordOffset f.record) 8 = true := (offsetValid_iff _ _).2 h
  simp [loadBank, hnone, hgood, hi]

/-- A bank's load concludes with the refusal of its check, or with the replacement (R153). -/
theorem concludeBank_of_fault {i : BankId} {g : Staging} {f : InFlight} {s : State} {d : Nat}
    (hnone : s.posture.staging = none) (hd : structureFault g.bank = some d) :
    concludeBank i g f s = finish resultBadStructure d (bankCounts g.skipped g.clamped) f s := by
  simp only [concludeBank, withStaging_of_none hnone, hd]

theorem concludeBank_of_sound {i : BankId} {g : Staging} {f : InFlight} {s : State}
    (hnone : s.posture.staging = none) (hd : structureFault g.bank = none) :
    concludeBank i g f s = finish (adjustedResult g.skipped g.clamped) 0 (bankCounts g.skipped g.clamped) f
      { s with posture := withBank s.posture i g.bank } := by
  simp only [concludeBank, withStaging_of_none hnone, hd]

theorem withBank_eq (u : PostureUnit) (i : BankId) (b : Bank) :
    withBank u i b = if i = .a then { u with bankA := b } else { u with bankB := b } := by
  cases i <;> rfl

/-- The staging copy as a load begins (R151). -/
def freshStaging (u : PostureUnit) (i : BankId) (count : Nat) : Staging :=
  { bank := bankOf u i, count := count, applied := 0, skipped := 0, clamped := 0 }

theorem readHead_of_whole {i : BankId} {offset : Nat} {head : BitVec 64} {entries : List (BitVec 64)} {f : InFlight}
    {s : State} {count : Nat} (hcount : (word32At head 0).toNat = count) (hlow : 1 ≤ count) (hhigh : count ≤ 120)
    (hfits : offset + 8 + 8 * count ≤ 0x4000) (hwhole : entries.length = count) :
    readHead i offset head entries f s =
      concludeBank i (entries.foldl applyEntry (freshStaging s.posture i count)) f s := by
  obtain ⟨hc, ha⟩ := foldl_applyEntry_count entries (freshStaging s.posture i count)
  have htake : entries.take (count - 0) = entries := List.take_of_length_le (by omega)
  simp only [readHead, hcount]
  refine (if_neg (by omega)).trans ((if_neg (not_lt.2 hfits)).trans ?_)
  rw [applyEntries, htake]
  refine if_pos ?_
  rw [show ({ bank := bankOf s.posture i, count := count, applied := 0, skipped := 0, clamped := 0 } : Staging) =
    freshStaging s.posture i count from rfl, hc, ha, hwhole]
  exact Nat.le_add_left count 0

/-- Settles O52. -/
theorem loadBankReplacesOrRefuses : Obligations.LoadBankReplacesOrRefuses := by
  refine ⟨applyEntry_applied, structureFault_checked, fun s f i head entries h hnone hcode => ?_⟩
  intro offset count g counts
  have hbank := bankOfCode_of_code hcode
  have performed {data : List (BitVec 64)} {r d a b : Nat} {x : State}
      (hload : loadBank data f s = finish r d (bankCounts a b) f x) :
      exec (.loadBank data) s = .next (withResult x f r d (counts a b)) := by
    rw [exec_eq, show counts a b = bankCounts a b from (bankCounts_eq a b).symm, ← finish_eq, ← hload]
    exact congrArg _ (perform_of_inFlightAs h)
  refine ⟨fun hbad => performed (loadBank_of_bad hnone hbad), fun hgood => ⟨fun hcount => ?_, fun hlow hhigh hpast => ?_,
    fun hlow hhigh hfits hwhole => ?_⟩⟩
  · exact performed ((loadBank_of_head hnone hbank hgood).trans (if_pos hcount))
  · exact performed ((loadBank_of_head hnone hbank hgood).trans ((if_neg (by show ¬(count = 0 ∨ 120 < count); omega)).trans
      (if_pos hpast)))
  · have hread := (loadBank_of_head hnone hbank hgood).trans
      (readHead_of_whole (f := f) (s := s) (i := i) rfl hlow hhigh hfits hwhole)
    refine ⟨fun d hd => performed (hread.trans (concludeBank_of_fault hnone hd)), fun hd => ?_⟩
    rw [performed (hread.trans (concludeBank_of_sound hnone hd)), withBank_eq]
    rfl

/-! ### LOAD_ZONES (R156) -/

theorem byteAt_getLsbD {w : Nat} (v : BitVec w) (j i : Nat) (h : i < 8) :
    (byteAt v j).getLsbD i = v.getLsbD (8 * j + i) := by
  simp [byteAt, h]

theorem numAt_eq_zero_iff (r : BitVec 128) : numAt r 0 = 0 ↔ r.extractLsb' 0 8 = 0 :=
  (BitVec.toNat_eq (x := r.extractLsb' 0 8) (y := 0)).symm

/-- A zone record read under an output range. -/
theorem readZone_read (rangeX rangeY : Nat) (r : BitVec 128) : ZoneRead rangeX rangeY r (readZone rangeX rangeY r) := by
  have hflag (i : Nat) (h : i < 8) : (byteAt r 1).getLsbD i = r.getLsbD (8 + i) := byteAt_getLsbD r 1 i h
  refine ⟨fun hempty => ?_, fun hpresent hcrossed => ?_, fun hpresent hsound => ?_⟩
  · exact if_pos ((numAt_eq_zero_iff r).2 hempty)
  · refine (if_neg ((numAt_eq_zero_iff r).not.2 hpresent)).trans ((if_pos hcrossed).trans ?_)
    simp [word16At]
  · refine (if_neg ((numAt_eq_zero_iff r).not.2 hpresent)).trans ((if_neg hsound).trans ?_)
    simp only [hflag 0 (by decide), hflag 1 (by decide), hflag 2 (by decide), hflag 3 (by decide), hflag 4 (by decide)]
    simp [word16At]

theorem foldl_applyZone (rangeX rangeY : Nat) (records : List (BitVec 128)) (g : ZoneStaging) :
    records.foldl (applyZone rangeX rangeY) g =
      { places := g.places ++ (records.map (readZone rangeX rangeY)).map (·.1)
        clamped := g.clamped + ((records.map (readZone rangeX rangeY)).filter fun z => z.2.1).length
        dropped := g.dropped + ((records.map (readZone rangeX rangeY)).filter fun z => z.2.2).length } := by
  induction records generalizing g with
  | nil => simp
  | cons r records ih =>
    rw [List.foldl_cons, ih, applyZone]
    cases hclamped : (readZone rangeX rangeY r).2.1 <;> cases hdropped : (readZone rangeX rangeY r).2.2 <;>
      simp [hclamped, hdropped, Nat.add_assoc, Nat.add_comm]

theorem zoneCounts_eq (a b : Nat) : zoneCounts a b = [BitVec.ofNat 8 a, BitVec.ofNat 8 b] ++ List.replicate 30 0 := rfl

theorem zoneMapping_eq (s : State) (sf : Surface) : zoneMapping s sf = (sectionOf sf s.posture.bankA).mapping := by
  cases sf <;> rfl

theorem loadZones_of_bad {s : State} {f : InFlight} {records : List (BitVec 128)} (hcount : numAt f.record 5 ≠ 0)
    (h : ¬OffsetAccepted (recordOffset f.record) (16 * numAt f.record 5)) :
    loadZones records f s = finish resultBadOffset 0 (zoneCounts 0 0) f s :=
  if_pos ⟨hcount, Bool.eq_false_iff.2 ((offsetValid_iff _ _).not.2 h)⟩

theorem loadZones_of_good {s : State} {f : InFlight} {records : List (BitVec 128)} {sf : Surface}
    (hsf : surfaceOfCode (numAt f.record 4) = sf)
    (h : numAt f.record 5 = 0 ∨ OffsetAccepted (recordOffset f.record) (16 * numAt f.record 5)) :
    loadZones records f s = applyZones sf (numAt f.record 5) records f s := by
  subst hsf
  refine if_neg fun ⟨hcount, hbad⟩ => ?_
  have hgood := (offsetValid_iff _ _).2 (h.resolve_left hcount)
  simp [hgood] at hbad

/-- Zone records read whole, none before them, replace the table in one step. -/
theorem applyZones_of_whole {s : State} {f : InFlight} {sf : Surface} {records : List (BitVec 128)}
    (hnone : s.posture.zoneStaging = none) :
    applyZones sf records.length records f s = concludeZones sf records.length
      (records.foldl (applyZone (outRangeX (zoneMapping s sf)) (outRangeY (zoneMapping s sf)))
        { places := [], clamped := 0, dropped := 0 }) f s := by
  simp only [applyZones, hnone, Option.getD_none, List.length_nil, Nat.sub_zero, List.take_length]
  exact if_pos (by simp [foldl_applyZone])

theorem putZones_whole (sf : Surface) (places : List (Option Zone)) (s : State) :
    putZones sf places.length places s = withSurface s sf { surfaceOf s sf with
      zones := { count := places.length, places := places ++ List.replicate (16 - places.length) none } } := rfl

/-- Settles O53. -/
theorem loadZonesReplacesOrRefuses : Obligations.LoadZonesReplacesOrRefuses := by
  refine ⟨readZone_read, fun s f sf records h hnone hcode _ => ?_⟩
  intro count m read clamped dropped counts
  have performed {r d a b : Nat} {x : State} (hload : loadZones records f s = finish r d (zoneCounts a b) f x) :
      exec (.loadZones records) s = .next (withResult x f r d (counts a b)) := by
    rw [exec_eq, show counts a b = zoneCounts a b from (zoneCounts_eq a b).symm, ← finish_eq, ← hload]
    exact congrArg _ (perform_of_inFlightAs h)
  refine ⟨fun hcount hbad => performed (loadZones_of_bad hcount hbad), fun hgood hwhole => ?_⟩
  have hread : loadZones records f s = concludeZones sf records.length
      { places := read.map (·.1), clamped := clamped, dropped := dropped } f s := by
    rw [loadZones_of_good (surfaceOfCode_of_code hcode) hgood, show numAt f.record 5 = records.length from hwhole.symm,
      applyZones_of_whole hnone, zoneMapping_eq, foldl_applyZone]
    simp only [List.nil_append, Nat.zero_add]
    rfl
  have hlength : (read.map (·.1)).length = count := by simp [read, hwhole]
  rw [performed (hread.trans rfl), withZoneStaging_of_none hnone, putZones, hlength, hwhole]
  rfl

end Sys2Proof.Machine
end

section
/-! What the work of a frame leaves of its surface's unit, clear requests (R62, R63), SLEEP and WAKE (R190, R193, R61). -/

namespace Sys2Proof.Machine

/-! ### What a frame's work leaves of its unit -/

/-- From `u` to `v` a frame's work has left the frame places, the surface's state and its requests. -/
structure WorkKept (u v : SurfaceUnit) : Prop where
  processing : v.processing = u.processing
  waiting : v.waiting = u.waiting
  clearReq : v.clearReq = u.clearReq

theorem WorkKept.refl (u : SurfaceUnit) : WorkKept u u := ⟨rfl, rfl, rfl⟩

/-- The unit after a tracked frame: its handover taken or waiting, and its ended contacts released. -/
theorem trackFrame_unit (sf : Surface) (st : FrameStart) (f : Frame) (s : State) :
    surfaceOf (trackFrame sf st f s) sf = releaseEnded { trackedUnit sf st f (surfaceOf s sf) with
      publisher := runFrames sf (isFenced s.regs.fenced (frameStream sf)) s.clock
        (trackedUnit sf st f (surfaceOf s sf)).created
        ((surfaceOf s sf).publisher.handed ++ [trackedHandover sf st f (surfaceOf s sf)]) (surfaceOf s sf).publisher } := by
  cases sf <;> rfl

theorem reportWake_surface (type fingers : Nat) (t : Time) (s : State) (sf : Surface) :
    surfaceOf (reportWake type fingers t s) sf = surfaceOf s sf := by
  cases sf with
  | pad => exact reportWake_pad type fingers t s
  | screen => exact reportWake_screen type fingers t s

/-- The unit after a frame's extraction in WATCH: the dropped blobs are counted. -/
def droppedUnit (dropped : Nat) (u : SurfaceUnit) : SurfaceUnit :=
  { u with counters := { u.counters with blobsDropped := satAdd 65535 u.counters.blobsDropped dropped } }

theorem countDropped_eq (sf : Surface) (dropped : Nat) (s : State) :
    countDropped sf dropped s = withSurface s sf (droppedUnit dropped (surfaceOf s sf)) := by
  cases sf <;> rfl

/-- The wake run count after a WATCH frame (R191). -/
def wakeRunAfter (woke : Bool) (u : SurfaceUnit) : Nat := if woke then satAdd 8 u.wakeRun 1 else 0

/-- The unit after a WATCH frame. -/
def watchedUnit (sf : Surface) (st : FrameStart) (f : Frame) (u : SurfaceUnit) : SurfaceUnit :=
  let blobs := extractOn sf (sectionOf sf st.snap.values) f.cells
  { droppedUnit blobs.2 u with
    wakeRun := wakeRunAfter (isWakeFrame (sectionOf sf st.snap.values) st.zones blobs.1) u }

/-- The state after a WATCH frame, its report aside. -/
def watchedState (sf : Surface) (st : FrameStart) (f : Frame) (s : State) : State :=
  withSurface s sf (watchedUnit sf st f (surfaceOf s sf))

theorem watchFrame_eq (sf : Surface) (st : FrameStart) (f : Frame) (s : State) :
    watchFrame sf st f s =
      if (isWakeFrame (sectionOf sf st.snap.values) st.zones (extractOn sf (sectionOf sf st.snap.values) f.cells).1 &&
        decide (st.snap.values.shared.wakeFrames ≤ (surfaceOf (watchedState sf st f s) sf).wakeRun)) = true
      then reportWake 1 (wakeSurfaceCode sf) f.time (watchedState sf st f s) else watchedState sf st f s := by
  cases sf <;> rfl

theorem watchFrame_surface (sf : Surface) (st : FrameStart) (f : Frame) (s : State) :
    surfaceOf (watchFrame sf st f s) sf = surfaceOf (watchedState sf st f s) sf := by
  rw [watchFrame_eq]
  split
  · exact reportWake_surface _ _ _ _ sf
  · rfl

theorem processFrame_workKept (sf : Surface) (st : FrameStart) (f : Frame) (s : State) :
    WorkKept (surfaceOf s sf) (surfaceOf (processFrame sf st f s) sf) := by
  have stale : WorkKept (surfaceOf s sf) (surfaceOf (staleFrame sf st f s) sf) := by
    rw [staleFrame, countDropped_eq, surfaceOf_withSurface_same]
    exact ⟨rfl, rfl, rfl⟩
  unfold processFrame
  split
  case h_1 => exact .refl _
  case h_2 =>
    rw [trackFrame_unit]
    exact ⟨rfl, rfl, rfl⟩
  case h_3 =>
    split
    · rw [watchFrame_surface, watchedState, surfaceOf_withSurface_same]
      exact ⟨rfl, rfl, rfl⟩
    · exact stale
  case h_4 => exact stale

/-- A frame's end takes the next one into the processing place (R7). -/
theorem endFrame_surface (sf : Surface) (st : FrameStart) (f : Frame) (s : State) :
    surfaceOf (endFrame sf st f s) sf = nextFrame (surfaceOf (processFrame sf st f s) sf) := by
  cases sf <;> rfl

theorem endFrame_clearReq (sf : Surface) (st : FrameStart) (f : Frame) (s : State) :
    (surfaceOf (endFrame sf st f s) sf).clearReq = (surfaceOf s sf).clearReq := by
  rw [endFrame_surface]
  exact (processFrame_workKept sf st f s).clearReq

/-! ### Clear requests (R62, R63) -/

/-- A stop leaves no clear request, whether RUN is set again or not. -/
theorem endStop_clearReq (s : State) (sf : Surface) : (surfaceOf (endStop s) sf).clearReq = false := by
  have hstopped : (surfaceOf (stopped s) sf).clearReq = false := by cases sf <;> rfl
  have hstarted : (surfaceOf (tryStart (stopped s)) sf).clearReq = false := by
    unfold tryStart
    split
    · cases sf <;> exact hstopped
    · cases sf <;> exact hstopped
  exact ite_keeps (P := fun t => (surfaceOf t sf).clearReq = false) hstarted hstopped

section
variable {sf : Surface} {s : State} {f : Frame}

/-- The first start after a clear request, tracked on the bank in force: the table is ended and nothing more. -/
theorem startFrame_clears (hframe : (surfaceOf s sf).processing = some { frame := f, start := none })
    (hclear : (surfaceOf s sf).clearReq = true) (hsleep : (surfaceOf s sf).sleepClose = false)
    (hrun : s.regs.state = .running) (hclosing : (surfaceOf s sf).closing = [])
    (hstate : (surfaceOf s sf).state = .active) (hactive : (takeSnapshot s sf).active = true)
    (hbank : (takeSnapshot s sf).bank = (surfaceOf s sf).bankInForce) (x : Time) :
    startFrame sf x s = withUnit (endPadGestures s sf .cleared x) sf
        { surfaceOf s sf with
          clearReq := false
          table := []
          closing := (byCreation (surfaceOf s sf).created (surfaceOf s sf).table).map closeContact
          processing := some (begun f (startOf sf s .track))
          enable := startEnable sf (takeSnapshot s sf) s
          counters := endingCounts (surfaceOf s sf) }
        (startSuspension sf (takeSnapshot s sf) s) := by
  have hready : readyState x sf s = endPadGestures s sf .cleared x := by simp [readyState, clearedState, hclear, hsleep]
  have hunit : readyUnit sf (takeSnapshot s sf) s =
      { endTable (surfaceOf s sf) with clearReq := false, enable := startEnable sf (takeSnapshot s sf) s } := by
    simp [readyUnit, wokenUnit, clearedUnit, hclear, hsleep, endTable]
  rw [startFrame_eq, if_neg (by simp [hrun]), hready, hunit, outcomeRunning_active (by exact hstate), hactive, Bool.not_true,
    if_neg Bool.false_ne_true]
  refine (if_pos (by exact hbank)).trans ?_
  rw [startTrack_withUnit, workUnit_eq (by exact hframe), padFloor_of_ended]
  simp only [endTable, hclosing, List.nil_append]
  rfl

end

/-- Settles O51. -/
theorem clearRequestLife : Obligations.ClearRequestLife := by
  refine ⟨fun s f sf h hcode => ?_, fun s sf f hrun hframe => ?_, fun s t sf hexec => ?_,
    fun s hdone => ?_, fun s hwrite => ?_,
    fun level s t hreset => ?_, fun sf s f hrun hframe hclear hsleep hclosing hstate hactive hbank => ?_⟩
  · rw [exec_eq]
    refine congrArg _ ((perform_of_inFlightAs h).trans ?_)
    rw [clearTracking, finishOk_eq, surfaceOfCode_of_code hcode]
  · obtain ⟨_, -, -, -, hclear⟩ := startFrame_begins hframe f.time
    exact ⟨_, exec_frameStart_of_waiting hrun hframe, hclear⟩
  · rw [exec_next_iff] at hexec
    subst hexec
    exact endProcessing_keeps (P := fun t => (surfaceOf t sf).clearReq = (surfaceOf s sf).clearReq) rfl
      fun _ st f => endFrame_clearReq sf st f s
  · refine ⟨endStop s, ?_, endStop_clearReq s .pad, endStop_clearReq s .screen⟩
    exact congrArg Host.Outcome.next (if_pos hdone)
  · exact ⟨_, exec_faultRecordWriteFailure_of_write hwrite, rfl, rfl⟩
  · obtain hreset | hreset := hreset
    · rw [exec_powerOnReset] at hreset
      cases hreset
      exact ⟨rfl, rfl⟩
    · rw [exec_resetLine] at hreset
      cases hreset
      exact ⟨rfl, rfl⟩
  · intro u
    have hsnap := takeSnapshot_of_ne_watch (s := s) (sf := sf) (by rw [hstate]; decide)
    have heq := startFrame_clears hframe hclear hsleep hrun hclosing hstate (by rw [hsnap]; exact hactive)
      (by rw [hsnap]; exact hbank) f.time
    obtain ⟨hpad, hscreen⟩ := endPadGestures_wholeEnd sf s .cleared f.time
    refine ⟨_, startOf sf s .track, _, exec_frameStart_of_waiting (.inl hrun) hframe, ?_, rfl,
      isClosingList_byCreation u, ?_, ?_⟩
    · rw [heq, surfaceOf_withUnit]
    · rw [heq, withUnit_gestures, withUnit_events]
      exact hpad
    · rw [heq, withUnit_gestures, withUnit_events]
      exact hscreen

end Sys2Proof.Machine
end

section
/-! SLEEP, WAKE, and the first frame start after SLEEP (R61, R190, R193). -/

namespace Sys2Proof.Machine

/-! ### SLEEP and WAKE (R190, R193) -/

theorem beginDoze_eq (s : State) : beginDoze s = { s with
    regs := { s.regs with state := .doze }
    pad := slept s.pad
    screen := slept s.screen
    pen := if (slept s.screen).state = .watch then { s.pen with isOpen := true } else s.pen
    wakeReported := false } := by
  by_cases h : (slept s.screen).state = .watch
  · exact (if_pos (show (sleepSurface s.screen).state = .watch from h)).trans (by rw [if_pos h]; rfl)
  · exact (if_neg (show ¬(sleepSurface s.screen).state = .watch from h)).trans (by rw [if_neg h]; rfl)

theorem surfaceOf_endDoze (s : State) (sf : Surface) :
    surfaceOf (endDoze s) sf = wakeSurface (activityOf (currentEntry s.posture) sf) (surfaceOf s sf) := by
  cases sf <;> rfl

theorem endDoze_pen (s : State) :
    (endDoze s).pen = if s.screen.state = .watch then (closeChannel s.clock s.pen).channel else s.pen := by
  simp only [endDoze]
  split <;> rfl

/-- WAKE changes the run state, the surfaces and the Pen Channel alone. -/
theorem endDoze_eq (s : State) : endDoze s = { s with
    regs := { s.regs with state := .running }
    pad := (endDoze s).pad
    screen := (endDoze s).screen
    pen := (endDoze s).pen } := by
  simp only [endDoze]
  split <;> rfl

theorem staleWork_frame (p : InProcess) : (staleWork p).frame = p.frame := by
  unfold staleWork
  (repeat' split) <;> rfl

theorem wakeSurface_processing (active : Bool) (u : SurfaceUnit) :
    (wakeSurface active u).processing = u.processing.map staleWork := by
  unfold wakeSurface
  (repeat' split) <;> rfl

/-- A watched or inactive surface at WAKE. -/
theorem wakeSurface_of_watched {active : Bool} {u : SurfaceUnit} (h : u.state = .watch ∨ u.state = .inactive) :
    wakeSurface active u = { u with
      wakeRun := 0
      processing := (wakeSurface active u).processing
      state := if active then .settling else .inactive
      settle := if active then 0 else u.settle } := by
  simp only [wakeSurface, if_pos h]
  cases active <;> rfl

/-! ### The first frame start after SLEEP (R61) -/

/-- A unit whose table a frame's start after SLEEP has ended. -/
structure EndedAfterSleep (sf : Surface) (s : State) (v : SurfaceUnit) : Prop where
  table : v.table = []
  closing : v.closing = (byCreation (surfaceOf s sf).created (surfaceOf s sf).table).map closeContact
  created : v.created = (surfaceOf s sf).created
  publisher : v.publisher = (surfaceOf s sf).publisher
  processing : v.processing = (surfaceOf s sf).processing
  sleepClose : v.sleepClose = false
  retractions : v.counters.retractions = (endingCounts (surfaceOf s sf)).retractions
  zones : v.zones = (surfaceOf s sf).zones

theorem EndedAfterSleep.moved {sf : Surface} {s : State} {v : SurfaceUnit} (h : EndedAfterSleep sf s v) (k : SurfaceState)
    (n : Nat) (bank : BankId) : EndedAfterSleep sf s { v with state := k, settle := n, bankInForce := bank } :=
  ⟨h.table, h.closing, h.created, h.publisher, h.processing, h.sleepClose, h.retractions, h.zones⟩

theorem EndedAfterSleep.settledOnce {sf : Surface} {s : State} {v : SurfaceUnit} (h : EndedAfterSleep sf s v)
    (snap : Snapshot) : EndedAfterSleep sf s (settledOnce snap v) :=
  ⟨h.table, h.closing, h.created, h.publisher, h.processing, h.sleepClose, h.retractions, h.zones⟩

/-- Whether a start after SLEEP tracks its frame at once, or gives the closing list out as its result (log 12). -/
def SleepResult (sf : Surface) (x : Time) (s : State) (w : FrameWork) (u : SurfaceUnit) : Prop :=
  (w = .track ∧ EndedAfterSleep sf s u) ∨
  (w ≠ .track ∧ ∃ v, EndedAfterSleep sf s v ∧ u = handedIfAny sf (takeSnapshot s sf)
    (takeView sf (takeSnapshot s sf) s).1 x (endPadGestures s sf .postureCancelled x) v)

section
variable {sf : Surface} {s : State} {f : Frame}

theorem readyUnit_afterSleep (hsleep : (surfaceOf s sf).sleepClose = true) (hclear : (surfaceOf s sf).clearReq = false)
    (snap : Snapshot) :
    readyUnit sf snap s = { endTable (surfaceOf s sf) with sleepClose := false, enable := startEnable sf snap s } := by
  simp [readyUnit, wokenUnit, clearedUnit, hclear, hsleep, endTable]

theorem readyState_afterSleep (hsleep : (surfaceOf s sf).sleepClose = true) (hclear : (surfaceOf s sf).clearReq = false)
    (x : Time) : readyState x sf s = endPadGestures s sf .postureCancelled x := by
  simp [readyState, clearedState, hclear, hsleep]

/-- After SLEEP the gestures have ended, so that a frame tracked at once finds none for its floor. -/
theorem padFloor_of_opened (sf : Surface) (s : State) (snap : Snapshot) (x y : Time) :
    padFloor sf snap y (openPen sf (endPadGestures s sf .postureCancelled x)) =
      openPen sf (endPadGestures s sf .postureCancelled x) := by
  cases sf with
  | pad => exact padFloor_of_ended .pad s snap .postureCancelled x y
  | screen => rfl

/-- What a frame's start after SLEEP comes to: a state in which the pad's gestures have ended, with the unit's work begun. -/
def StartsAfterSleep (sf : Surface) (x : Time) (s t : State) : Prop :=
  ∃ w b u, t = withUnit b sf (workUnit (takeSnapshot s sf) (takeView sf (takeSnapshot s sf) s).1 w u)
      (startSuspension sf (takeSnapshot s sf) s) ∧
    (b = endPadGestures s sf .postureCancelled x ∨ b = openPen sf (endPadGestures s sf .postureCancelled x)) ∧
    SleepResult sf x s w u ∧ (s.regs.state = .doze → (surfaceOf s sf).state = .watch → w = .watch ∧ u.state = .watch)

/-- The unit before the outcome, its table ended. -/
theorem endedAfterSleep_ready (hsleep : (surfaceOf s sf).sleepClose = true) (hclear : (surfaceOf s sf).clearReq = false)
    (hclosing : (surfaceOf s sf).closing = []) (snap : Snapshot) : EndedAfterSleep sf s (readyUnit sf snap s) := by
  rw [readyUnit_afterSleep hsleep hclear]
  exact ⟨rfl, by simp [endTable, hclosing], rfl, rfl, rfl, rfl, rfl, rfl⟩

/-- A frame that is not tracked gives the closing list out as its result. -/
theorem startsAfterSleep_of_handed {w : FrameWork} (hw : w ≠ .track) {v : SurfaceUnit} (hv : EndedAfterSleep sf s v)
    (x : Time) (hdoze : s.regs.state = .doze → (surfaceOf s sf).state = .watch → w = .watch ∧ v.state = .watch) :
    StartsAfterSleep sf x s (withUnit (endPadGestures s sf .postureCancelled x) sf
      (workUnit (takeSnapshot s sf) (takeView sf (takeSnapshot s sf) s).1 w (handedIfAny sf (takeSnapshot s sf)
        (takeView sf (takeSnapshot s sf) s).1 x (endPadGestures s sf .postureCancelled x) v))
      (startSuspension sf (takeSnapshot s sf) s)) :=
  ⟨w, _, _, rfl, .inl rfl, .inr ⟨hw, v, hv, rfl⟩, fun h h' => by rw [handedIfAny_state]; exact hdoze h h'⟩

theorem startDiscard_afterSleep {v : SurfaceUnit} (hv : EndedAfterSleep sf s v) (x : Time)
    (hdoze : s.regs.state = .doze → (surfaceOf s sf).state ≠ .watch) :
    StartsAfterSleep sf x s (startDiscard sf (takeSnapshot s sf) (takeView sf (takeSnapshot s sf) s).1 x
      (withUnit (endPadGestures s sf .postureCancelled x) sf v (startSuspension sf (takeSnapshot s sf) s))) := by
  rw [startDiscard_withUnit]
  exact startsAfterSleep_of_handed (by decide) hv x fun h h' => absurd h' (hdoze h)

theorem startSettling_afterSleep {v : SurfaceUnit} (hv : EndedAfterSleep sf s v) (x : Time)
    (hdoze : s.regs.state = .doze → (surfaceOf s sf).state ≠ .watch) :
    StartsAfterSleep sf x s (startSettling sf (takeSnapshot s sf) (takeView sf (takeSnapshot s sf) s).1 x
      (withUnit (endPadGestures s sf .postureCancelled x) sf v (startSuspension sf (takeSnapshot s sf) s))) := by
  obtain hlt | hle := Nat.lt_or_ge v.settle (sectionOf sf (takeSnapshot s sf).values).settleFrames
  · rw [startSettling_of_lt hlt]
    exact startsAfterSleep_of_handed (by decide) (hv.settledOnce _) x fun h h' => absurd h' (hdoze h)
  · rw [startSettling_of_le hle, padFloor_of_opened]
    exact ⟨.track, _, _, rfl, .inr rfl, .inl ⟨rfl, hv.moved _ _ _⟩, fun h h' => absurd h' (hdoze h)⟩

theorem startFrame_afterSleep (hsleep : (surfaceOf s sf).sleepClose = true) (hclear : (surfaceOf s sf).clearReq = false)
    (hclosing : (surfaceOf s sf).closing = []) (hstate : (surfaceOf s sf).state ≠ .active) (x : Time) :
    StartsAfterSleep sf x s (startFrame sf x s) := by
  have hended := endedAfterSleep_ready hsleep hclear hclosing (takeSnapshot s sf)
  have hsame : (readyUnit sf (takeSnapshot s sf) s).state = (surfaceOf s sf).state := readyUnit_state ..
  rw [startFrame_eq, readyState_afterSleep hsleep hclear]
  by_cases hdoze : s.regs.state = .doze
  · rw [if_pos hdoze]
    by_cases hwatch : (surfaceOf s sf).state = .watch
    · rw [outcomeDoze_watch (hsame.trans hwatch)]
      exact startsAfterSleep_of_handed (by decide) hended x fun _ _ => ⟨rfl, hsame.trans hwatch⟩
    · rw [outcomeDoze_of_ne (hsame ▸ hwatch)]
      exact startsAfterSleep_of_handed (by decide) hended x fun _ h => absurd h hwatch
  · have hawake : s.regs.state = .doze → (surfaceOf s sf).state ≠ .watch := fun h => absurd h hdoze
    rw [if_neg hdoze]
    cases hkind : (surfaceOf s sf).state with
    | active => exact absurd hkind hstate
    | watch =>
      rw [outcomeRunning_watch (hsame.trans hkind)]
      exact startDiscard_afterSleep hended x hawake
    | inactive =>
      rw [outcomeRunning_inactive (hsame.trans hkind)]
      exact ite_keeps (P := StartsAfterSleep sf x s) (startSettling_afterSleep (hended.moved _ _ _) x hawake)
        (startDiscard_afterSleep hended x hawake)
    | settling =>
      rw [outcomeRunning_settling (hsame.trans hkind)]
      exact ite_keeps (P := StartsAfterSleep sf x s) (startSettling_afterSleep hended x hawake)
        (startDiscard_afterSleep (hended.moved _ _ _) x hawake)

/-- The handover of an ended table's closing list. -/
theorem closingHandover_afterSleep {v : SurfaceUnit} (hv : EndedAfterSleep sf s v) (hclosing : (surfaceOf s sf).closing = [])
    (snap : Snapshot) (view : FrameView) (x : Time) :
    closingHandover sf snap view x v = closingHandover sf snap view x (endTable (surfaceOf s sf)) := by
  simp only [closingHandover, hv.created, hv.closing, endTable, hclosing, List.nil_append]

/-- What is left of the closing list in the unit after a start, and what the Publisher has of it (log 12). -/
def ClosingGivenOut (sf : Surface) (s t : State) (f : Frame) (snap : Snapshot) (w : FrameWork) (v : SurfaceUnit) : Prop :=
  (w = .track → IsClosingList (surfaceOf s sf) v.closing ∧ v.publisher = (surfaceOf s sf).publisher) ∧
  (w ≠ .track → v.closing = [] ∧
    ((surfaceOf s sf).table = [] → v.publisher = (surfaceOf s sf).publisher) ∧
    ((surfaceOf s sf).table ≠ [] → ∃ h, ClosingHandover sf s t f snap h ∧ v.publisher = handedOver sf s h))

theorem closingGivenOut_of_result {t : State} {w : FrameWork} {v : SurfaceUnit}
    (hresult : SleepResult sf f.time s w v) (hclosing : (surfaceOf s sf).closing = [])
    (hsuspension : t.suspension = startSuspension sf (takeSnapshot s sf) s) :
    ClosingGivenOut sf s t f (takeSnapshot s sf) w v := by
  obtain ⟨hw, hv⟩ | ⟨hw, v, hv, rfl⟩ := hresult
  · refine ⟨fun _ => ⟨?_, hv.publisher⟩, fun h => absurd hw h⟩
    rw [hv.closing]
    exact isClosingList_byCreation _
  · refine ⟨fun h => absurd h hw, fun _ => ?_⟩
    have hempty : v.closing = [] ↔ (surfaceOf s sf).table = [] := by
      rw [hv.closing, List.map_eq_nil_iff, ← List.length_eq_zero_iff, (byCreation_perm _ _).length_eq,
        List.length_eq_zero_iff]
    by_cases htable : (surfaceOf s sf).table = []
    · rw [handedIfAny_of_nil (hempty.2 htable)]
      exact ⟨hempty.2 htable, fun _ => hv.publisher, fun h => absurd htable h⟩
    · rw [handedIfAny_of_ne_nil (mt hempty.1 htable)]
      refine ⟨rfl, fun h => absurd h htable, fun _ => ⟨closingHandover sf (takeSnapshot s sf)
        (takeView sf (takeSnapshot s sf) s).1 f.time (endTable (surfaceOf s sf)),
        closingHandover_of_ended hclosing rfl rfl hsuspension, ?_⟩⟩
      simp only [handedUnit, closingHandover_afterSleep hv hclosing, endPadGestures_regs, endPadGestures_clock, hv.created,
        hv.publisher, handedOver]

theorem sleepResult_ended {x : Time} {w : FrameWork} {v : SurfaceUnit} (hresult : SleepResult sf x s w v) :
    v.table = [] ∧ v.sleepClose = false ∧ v.counters.retractions = (endingCounts (surfaceOf s sf)).retractions ∧
      v.processing = (surfaceOf s sf).processing ∧ v.zones = (surfaceOf s sf).zones := by
  obtain ⟨-, hv⟩ | ⟨-, v, hv, rfl⟩ := hresult
  · exact ⟨hv.table, hv.sleepClose, hv.retractions, hv.processing, hv.zones⟩
  · unfold handedIfAny
    split <;> exact ⟨hv.table, hv.sleepClose, hv.retractions, hv.processing, hv.zones⟩

end

/-- Settles O54. -/
theorem sleepAndWakeMoveRunState : Obligations.SleepAndWakeMoveRunState := by
  intro s f ok
  have result {i : Instr} {x y : State} (hexec : nextState i s = finishOk f x) (hx : x = y) : exec i s = .next (ok y) := by
    rw [exec_eq, hexec, finishOk_eq, hx]
  refine ⟨fun h hrun hstop => ?_, fun h hother => ?_, fun h hdoze hstop => ?_, fun h hother => ?_,
    fun sf g hrun hframe hsleep hclear hclosing hstate => ?_⟩
  · exact result (perform_of_inFlightAs h) ((if_pos ⟨hrun, hstop⟩).trans (beginDoze_eq s))
  · refine result (perform_of_inFlightAs h) (if_neg fun hboth => ?_)
    rw [hboth.1, hboth.2] at hother
    simp at hother
  · refine ⟨endDoze s, result (perform_of_inFlightAs h) (if_pos ⟨hdoze, hstop⟩), endDoze_eq s, fun sf hwatched => ?_,
      fun hwatch => ?_, fun hwatch => ?_⟩
    · rw [surfaceOf_endDoze]
      refine ⟨wakeSurface_of_watched hwatched, ?_⟩
      rw [wakeSurface_processing, Option.map_map]
      exact congrArg (fun g => (surfaceOf s sf).processing.map g) (funext staleWork_frame)
    · rw [endDoze_pen, if_pos hwatch]
      exact ⟨closeChannel_atRest _ _, rfl, rfl, rfl, rfl, rfl, rfl⟩
    · rw [endDoze_pen, if_neg hwatch]
  · refine result (perform_of_inFlightAs h) (if_neg fun hboth => ?_)
    rw [hboth.1, hboth.2] at hother
    simp at hother
  · intro u bank snap
    obtain ⟨w, b, v, heq, hb, hresult, hwatch⟩ := startFrame_afterSleep hsleep hclear hclosing hstate g.time
    obtain ⟨htable, hsleepClose, hcount, hprocessing, hzones⟩ := sleepResult_ended hresult
    obtain ⟨hpad, hscreen⟩ := endPadGestures_wholeEnd sf s .postureCancelled g.time
    obtain ⟨htrack, hhanded⟩ := closingGivenOut_of_result (t := startFrame sf g.time s) hresult hclosing (by rw [heq]; rfl)
    rw [workUnit_eq (hprocessing.trans hframe), hzones] at heq
    have hunit := (congrArg (surfaceOf · sf) heq).trans (surfaceOf_withUnit ..)
    have hgestures : b.gestures = (endPadGestures s sf .postureCancelled g.time).gestures ∧
        b.events = (endPadGestures s sf .postureCancelled g.time).events := by
      obtain rfl | rfl := hb
      · exact ⟨rfl, rfl⟩
      · cases sf <;> exact ⟨rfl, rfl⟩
    refine ⟨_, startOf sf s w, exec_frameStart_of_waiting hrun hframe, ?_⟩
    rw [hunit]
    refine ⟨rfl, rfl, htable, hsleepClose, hcount, htrack, hhanded, hwatch, ?_, ?_, ?_⟩
    · rw [heq, withUnit_gestures, withUnit_events, hgestures.1, hgestures.2]
      exact hpad
    · rw [heq, withUnit_gestures, withUnit_events, hgestures.1, hgestures.2]
      exact hscreen
    · rw [heq]
      obtain rfl | rfl := hb <;> cases sf <;> rfl

end Sys2Proof.Machine
end

section
/-! The end of a frame's processing (R7, R191, R192), the mapping of a point (R25 to R30) and the id allocator (R53, R54). -/

namespace Sys2Proof.Machine

/-! ### The end of processing (R7) -/

section
variable {sf : Surface} {s : State} {f : Frame} {st : FrameStart}

/-- A frame that may end does so. -/
theorem exec_processingEnd (hrun : s.regs.state = .running ∨ s.regs.state = .doze)
    (hframe : (surfaceOf s sf).processing = some { frame := f, start := some st })
    (hend : st.work ≠ .track ∨ (surfaceOf s sf).publisher.handed = []) :
    exec (.frameProcessingEnd sf) s = .next (endFrame sf st f s) := by
  have hmay : mayEnd (surfaceOf s sf) st = true := (mayEnd_iff _ _).2 fun hwork => hend.resolve_left (· hwork)
  exact frameProcessingEnd_of_mayEnd ((isRunning_iff s).2 hrun) hframe hmay

/-- A discarded frame leaves the next one in the processing place, and drains the held events. -/
theorem endFrame_of_discard (hwork : st.work = .discard) :
    endFrame sf st f s = { withSurface s sf (nextFrame (surfaceOf s sf)) with events := (drainEvents s).events } := by
  have hprocess : processFrame sf st f s = s := by simp only [processFrame, hwork]
  rw [endFrame, hprocess]
  cases sf <;> rfl

end

/-- Settles O32. -/
theorem processingEndTakesWaitingFrame : Obligations.ProcessingEndTakesWaitingFrame := by
  intro sf s f st hrun hframe
  refine ⟨fun hwork hhanded => ?_, fun hend => ⟨_, exec_processingEnd hrun hframe hend, ?_, ?_, fun hwork => ?_⟩⟩
  · exact frameProcessingEnd_of_not_mayEnd hframe (Bool.eq_false_iff.2 fun h => hhanded ((mayEnd_iff _ _).1 h hwork))
  · rw [endFrame_surface, nextFrame, (processFrame_workKept sf st f s).waiting]
  · rw [endFrame_surface]
    rfl
  · rw [endFrame_of_discard hwork]
    cases sf <;> exact ⟨rfl, rfl⟩

/-! ### WATCH frames (R191, R192) -/

theorem inZone_iff (z : Zone) (p : Pt) : inZone z p = true ↔
    (z.x0 : Int) ≤ p.x ∧ p.x ≤ z.x1 ∧ (z.y0 : Int) ≤ p.y ∧ p.y ≤ z.y1 := by
  simp [inZone]

theorem isWakeFrame_iff (p : SurfaceParams) (zones : ZoneTable) (blobs : List Blob) :
    isWakeFrame p zones blobs = true ↔
      ∃ b ∈ blobs, ∃ z ∈ zones.places.take zones.count, WakesAt z (mapPoint p.mapping b.centroid).1 := by
  simp only [isWakeFrame, List.any_eq_true]
  refine exists_congr fun b => and_congr_right fun _ => exists_congr fun z => and_congr_right fun _ => ?_
  cases z with
  | none => simp [WakesAt]
  | some z => simp [WakesAt, inZone_iff]

/-- A wake cause reported (R192). -/
theorem reportWake_of_unreported {s : State} (h : s.wakeReported = false) (type fingers : Nat) (t : Time) :
    reportWake type fingers t s = { s with
      wakeReported := true
      regs := { s.regs with causes := s.regs.causes ||| 0x20#7 }
      events := (handEvents s [wakeEvent type fingers t]).events } :=
  (if_neg (by simp [h])).trans rfl

theorem reportWake_of_reported {s : State} (h : s.wakeReported = true) (type fingers : Nat) (t : Time) :
    reportWake type fingers t s = s := if_pos h

section
variable {sf : Surface} {s : State} {f : Frame} {st : FrameStart}

theorem watchedState_wakeRun (sf : Surface) (st : FrameStart) (f : Frame) (s : State) :
    (surfaceOf (watchedState sf st f s) sf).wakeRun = wakeRunAfter (isWakeFrame (sectionOf sf st.snap.values) st.zones
      (extractOn sf (sectionOf sf st.snap.values) f.cells).1) (surfaceOf s sf) := by
  rw [watchedState, surfaceOf_withSurface_same]
  rfl

theorem watchedState_wakeReported (sf : Surface) (st : FrameStart) (f : Frame) (s : State) :
    (watchedState sf st f s).wakeReported = s.wakeReported := by cases sf <;> rfl

/-- The end of a frame whose work changes its unit, the wake report and the events. -/
theorem endFrame_of_process {v : SurfaceUnit} {reported : Bool} {r : Registers} {e : EventPublisher}
    (h : processFrame sf st f s = { withSurface s sf v with wakeReported := reported, regs := r, events := e }) :
    endFrame sf st f s = { withSurface s sf (nextFrame v) with
      wakeReported := reported, regs := r, events := (drainEvents { s with regs := r, events := e }).events } := by
  rw [endFrame, h]
  cases sf <;> rfl

/-- A WATCH frame that completes a run of wake frames not yet reported. -/
theorem watchFrame_of_found
    (hwoke : isWakeFrame (sectionOf sf st.snap.values) st.zones
      (extractOn sf (sectionOf sf st.snap.values) f.cells).1 = true)
    (hrun : st.snap.values.shared.wakeFrames ≤ min ((surfaceOf s sf).wakeRun + 1) 8) (hreported : s.wakeReported = false) :
    watchFrame sf st f s = { withSurface s sf (watchedUnit sf st f (surfaceOf s sf)) with
      wakeReported := true
      regs := { s.regs with causes := s.regs.causes ||| 0x20#7 }
      events := (handEvents s [wakeEvent 1 (wakeSurfaceCode sf) f.time]).events } := by
  rw [watchFrame_eq, watchedState_wakeRun, hwoke, if_pos (by simpa [wakeRunAfter, satAdd] using hrun),
    reportWake_of_unreported ((watchedState_wakeReported ..).trans hreported)]
  cases sf <;> rfl

/-- Any other WATCH frame moves the run count alone. -/
theorem watchFrame_of_not_found
    (h : ¬(isWakeFrame (sectionOf sf st.snap.values) st.zones (extractOn sf (sectionOf sf st.snap.values) f.cells).1 = true ∧
      st.snap.values.shared.wakeFrames ≤ min ((surfaceOf s sf).wakeRun + 1) 8 ∧ s.wakeReported = false)) :
    watchFrame sf st f s = { withSurface s sf (watchedUnit sf st f (surfaceOf s sf)) with
      wakeReported := s.wakeReported, regs := s.regs, events := s.events } := by
  have hstate : watchedState sf st f s = { withSurface s sf (watchedUnit sf st f (surfaceOf s sf)) with
      wakeReported := s.wakeReported, regs := s.regs, events := s.events } := by cases sf <;> rfl
  rw [watchFrame_eq, watchedState_wakeRun, ← hstate]
  split
  case isFalse => rfl
  case isTrue hcond =>
    refine reportWake_of_reported ?_ _ _ _
    rw [Bool.and_eq_true, decide_eq_true_eq] at hcond
    obtain ⟨hwoke, hrun⟩ := hcond
    rw [watchedState_wakeReported]
    refine Bool.not_eq_false _ |>.mp fun hreported => h ⟨hwoke, ?_, hreported⟩
    simpa [wakeRunAfter, hwoke, satAdd] using hrun

end

/-- Settles O35. -/
theorem dozeWatchCountsWakeFrames : Obligations.DozeWatchCountsWakeFrames := by
  intro sf s f st hdoze hframe hwork p wakes run found
  have hwakes := isWakeFrame_iff p st.zones (extractOn sf p f.cells).1
  have hprocess : processFrame sf st f s = watchFrame sf st f s := by simp only [processFrame, hwork, if_pos hdoze]
  have hunit : surfaceOf (endFrame sf st f s) sf = nextFrame (surfaceOf (watchedState sf st f s) sf) := by
    rw [endFrame_surface, hprocess, watchFrame_surface]
  have hcount : (surfaceOf (endFrame sf st f s) sf).wakeRun =
      wakeRunAfter (isWakeFrame p st.zones (extractOn sf p f.cells).1) (surfaceOf s sf) := by
    rw [hunit]
    exact watchedState_wakeRun sf st f s
  have hrest : (surfaceOf (endFrame sf st f s) sf).table = (surfaceOf s sf).table ∧
      (surfaceOf (endFrame sf st f s) sf).state = (surfaceOf s sf).state := by
    rw [hunit, watchedState, surfaceOf_withSurface_same]
    exact ⟨rfl, rfl⟩
  refine ⟨_, exec_processingEnd (.inr hdoze) hframe (.inl (by rw [hwork]; decide)), fun h => ?_, fun h => ?_, ?_⟩
  · rw [hcount, hwakes.2 h]
    rfl
  · rw [hcount, Bool.eq_false_iff.2 (hwakes.not.2 h)]
    rfl
  · by_cases hfound : found
    · obtain ⟨hwoke, hrun, hreported⟩ := hfound
      have heq := watchFrame_of_found (hwakes.2 hwoke) hrun hreported
      have hend := endFrame_of_process (hprocess.trans heq)
      refine ⟨fun _ => ?_, fun h => absurd ⟨hwoke, hrun, hreported⟩ h, ?_, hrest⟩
      · rw [hend]
        cases sf <;> exact ⟨rfl, rfl, rfl⟩
      · rw [hend]
        cases sf <;> rfl
    · have heq := watchFrame_of_not_found (sf := sf) (s := s) (f := f) (st := st)
        fun ⟨hwoke, hrun, hreported⟩ => hfound ⟨hwakes.1 hwoke, hrun, hreported⟩
      have hend := endFrame_of_process (hprocess.trans heq)
      refine ⟨fun h => absurd h hfound, fun _ => ?_, ?_, hrest⟩
      · rw [hend]
        exact ⟨rfl, rfl, rfl⟩
      · rw [hend]
        cases sf <;> rfl

/-! ### The mapping of a point (R25 to R30) -/

theorem mapAxis_value (v : Int) (origin gain outMax : Nat) (flip : Bool) :
    let m := (v - origin) * gain / 65536
    let l : Int := if m < 0 then 0 else if outMax < m then outMax else m
    (mapAxis v origin gain outMax flip).1 = (if flip then outMax - l else l) ∧
      ((mapAxis v origin gain outMax flip).2 = true ↔ l ≠ m) := by
  intro m l
  have hlimit : limitTo 0 outMax m = l := by
    simp only [limitTo, l]
    (repeat' split) <;> omega
  rw [← hlimit]
  exact ⟨rfl, decide_eq_true_iff⟩

theorem mapAxis_bounds (v : Int) (origin gain outMax : Nat) (flip : Bool) :
    0 ≤ (mapAxis v origin gain outMax flip).1 ∧ (mapAxis v origin gain outMax flip).1 ≤ outMax := by
  simp only [mapAxis, limitTo]
  split <;> omega

/-- Settles O36. -/
theorem mappedPointFollowsRules : Obligations.MappedPointFollowsRules := by
  refine ⟨fun _ _ => rfl, fun p i => ?_⟩
  intro mx my lx ly fx fy
  obtain ⟨hx, hcx⟩ := mapAxis_value i.x p.originX p.gainX p.outMaxX p.flipX
  obtain ⟨hy, hcy⟩ := mapAxis_value i.y p.originY p.gainY p.outMaxY p.flipY
  obtain ⟨hx0, hx1⟩ := mapAxis_bounds i.x p.originX p.gainX p.outMaxX p.flipX
  obtain ⟨hy0, hy1⟩ := mapAxis_bounds i.y p.originY p.gainY p.outMaxY p.flipY
  refine ⟨?_, ?_, ?_, ?_⟩
  · simp only [mapPoint, hx, hy]
    rfl
  · rw [mapPoint, Bool.or_eq_true, hcx, hcy]
  · simp only [mapPoint]
    cases p.swap
    · exact ⟨hx0, hx1⟩
    · exact ⟨hy0, hy1⟩
  · simp only [mapPoint]
    cases p.swap
    · exact ⟨hy0, hy1⟩
    · exact ⟨hx0, hx1⟩

/-! ### The id allocator (R53, R54) -/

/-- The k-th id that the allocator tries. -/
def triedId (pointer k : Nat) : Nat := (pointer - 1 + k) % 63 + 1

theorem idsFrom_eq (pointer : Nat) : idsFrom pointer = (List.range 63).map (triedId pointer) := rfl

/-- The ids tried are all different, so that fewer than 63 held ones leave one. -/
theorem exists_untaken {held : List Nat} (pointer : Nat) (h : held.length < 63) : ∃ i ∈ idsFrom pointer, i ∉ held := by
  by_contra hall
  push Not at hall
  have hnodup : (idsFrom pointer).Nodup := by
    rw [idsFrom_eq]
    refine List.Nodup.map_on (fun a ha b hb heq => ?_) List.nodup_range
    have hlt := List.mem_range.1 ha
    have hlt' := List.mem_range.1 hb
    simp only [triedId] at heq
    omega
  have hle := (hnodup.subperm hall).length_le
  rw [idsFrom_eq, List.length_map, List.length_range] at hle
  omega

/-- Settles O38. -/
theorem allocatedIdIsFirstFree : Obligations.AllocatedIdIsFirstFree := by
  intro pointer held hlow hhigh hheld i
  obtain ⟨j, hj, hfree⟩ := exists_untaken pointer hheld
  obtain ⟨found, hfound⟩ := Option.isSome_iff_exists.1
    (List.find?_isSome (p := fun i => !held.contains i) |>.2 ⟨j, hj, by simpa using hfree⟩)
  have hi : i = found := congrArg (fun r => r.getD pointer) hfound
  obtain ⟨hnot, n, hn, hnth, hbefore⟩ := List.find?_eq_some_iff_getElem.1 hfound
  have hlength : (idsFrom pointer).length = 63 := by simp [idsFrom_eq]
  have htried (k : Nat) (hk : k < (idsFrom pointer).length) : (idsFrom pointer)[k] = triedId pointer k := by
    simp [idsFrom_eq]
  rw [htried] at hnth
  rw [hi]
  refine ⟨?_, ?_, by simpa using hnot, fun k hk => ?_, ?_⟩
  · rw [← hnth, triedId]
    omega
  · rw [← hnth, triedId]
    omega
  · rw [← hnth, triedId] at hk
    have htaken := hbefore k (by omega)
    rw [htried] at htaken
    simpa [triedId] using htaken
  · rw [nextId, ← hnth, triedId]
    split <;> omega

end Sys2Proof.Machine
end

section
/-! The state tables of the frame interface, the Gesture Engine and the Posture Unit, the registers with the Command
and the Fault Unit, the Publisher, and the line inputs (Tables 1-7, 4-4, 6-7, 7-6, 8-14, 9-1, 10-1, 11-1). -/

namespace Sys2Proof.Machine

/-! ### The frame interface (Tables 1-7, 4-4) -/

theorem tryStart_of_valid {s : State} (h : baseValid s.regs = true) : tryStart s = { s with
    regs := { s.regs with run := true, areaInvalid := false, state := .running, fenced := noFences }
    command := { s.command with scan := 0, rescan := false }
    penOut := { s.penOut with index := 0 }
    events := { s.events with position := 0, loss := false }
    pad := startSurface (currentEntry s.posture) .pad s.pad
    screen := startSurface (currentEntry s.posture) .screen s.screen
    suspension := { s.suspension with seen := s.pen.count } } := if_pos h

/-- A start leaves no surface in WATCH, so that no slow line is driven. -/
theorem tryStart_ne_watch {s : State} (h : baseValid s.regs = true) (sf : Surface) :
    (surfaceOf (tryStart s) sf).state ≠ .watch := by
  rw [surfaceOf_tryStart h]
  simp only [startSurface]
  split <;> decide

/-- A part in OFF at rest. -/
theorem resting_of_off {s : State} (hrest : AtRest s) (hoff : s.regs.state = .off) : Resting s :=
  (atRest_iff s).1 hrest (.inl hoff)

/-- Settles O19, column by column. -/
theorem frameInterfaceStateTable : Obligations.FrameInterfaceStateTable := by
  refine ⟨fun level s => ?powerOn, fun level s => ?line, fun s hoff hrun hbase hrest => ?runSet,
    fun s hdone hrun => ?stopEnd, fun s hwrite => ?halted⟩
  case powerOn =>
    refine ⟨_, exec_powerOnReset level s, fun sf => ?_, rfl, rfl, rfl⟩
    rw [surfaceOf_resetTo]
    exact ⟨rfl, rfl, rfl, rfl, rfl, rfl, rfl, rfl⟩
  case line =>
    refine ⟨_, exec_resetLine level s, fun sf => ?_, rfl, rfl, rfl⟩
    rw [surfaceOf_clock_regs, surfaceOf_resetTo]
    exact ⟨rfl, rfl, rfl, rfl, rfl, rfl, rfl, rfl⟩
  case runSet =>
    have happlied := (resting_of_off hrest hoff).applied hoff
    refine ⟨_, exec_runSet_of_off hoff hrun, fun sf => ?_, ?_, ?_, ?_⟩
    · obtain ⟨-, hprocessing, hwaiting, -⟩ := surfaceAtRest_of_off hrest hoff sf
      rw [surfaceOf_tryStart hbase]
      exact ⟨rfl, rfl, hprocessing, hwaiting, rfl, rfl, rfl, rfl⟩
    · exact beq_eq_false_iff_ne.2 (tryStart_ne_watch hbase .pad)
    · exact beq_eq_false_iff_ne.2 (tryStart_ne_watch hbase .screen)
    · rw [tryStart_of_valid hbase, ← happlied]
  case stopEnd =>
    refine ⟨_, exec_stopEnd_of_done hdone hrun, fun sf => ?_, rfl, rfl, rfl, rfl, rfl⟩
    · rw [surfaceOf_stopped]
      exact ⟨rfl, rfl, rfl, rfl, rfl, rfl, rfl⟩
  case halted =>
    refine ⟨_, exec_faultRecordWriteFailure_of_write hwrite, fun sf => ?_, rfl, rfl, rfl⟩
    · rw [surfaceOf_enterHalted]
      exact ⟨rfl, rfl, rfl, rfl, rfl, rfl, rfl, rfl⟩

/-! ### Gestures and postures (Tables 6-7, 7-6) -/

/-- Settles O21, column by column. -/
theorem gestureAndPostureStateTable : Obligations.GestureAndPostureStateTable := by
  refine ⟨fun level s => ?powerOn, fun level s => ?line, fun s hoff hrun hbase hrest => ?runSet,
    fun s hdone hrun => ?stopEnd, fun s hwrite => ?halted⟩
  case powerOn => exact ⟨_, exec_powerOnReset level s, rfl, rfl, rfl, rfl, rfl, rfl⟩
  case line => exact ⟨_, exec_resetLine level s, rfl, rfl, rfl, rfl, rfl, rfl⟩
  case runSet =>
    have hresting := resting_of_off hrest hoff
    refine ⟨_, exec_runSet_of_off hoff hrun, ?_⟩
    rw [tryStart_of_valid hbase]
    refine ⟨hresting.gestures, ?_, rfl, rfl⟩
    rw [← hresting.staging, ← hresting.zoneStaging]
  case stopEnd => exact ⟨_, exec_stopEnd_of_done hdone hrun, rfl, rfl, rfl, rfl⟩
  case halted => exact ⟨_, exec_faultRecordWriteFailure_of_write hwrite, rfl, rfl, rfl, rfl⟩

/-! ### Registers, Command Unit, Fault Unit (Tables 8-14, 11-1) -/

/-- The start clears or sets RUN whatever it was. -/
theorem tryStart_run_any (s : State) (run : Bool) :
    tryStart { s with regs := { s.regs with run := run } } = tryStart s := rfl

/-- A stop that restarts is a RUN_SET in the OFF state that it leaves (R166, R165). -/
theorem exec_stopEnd_restarts {s : State} (hdone : stopDone s = true) (hrun : s.regs.run = true) :
    exec .stopEnd s = exec .runSet (stopped { s with regs := { s.regs with run := false } }) := by
  rw [exec_runSet_of_off rfl rfl]
  refine congrArg Host.Outcome.next ((if_pos hdone).trans ((if_pos hrun).trans ?_))
  exact (tryStart_run_any (stopped s) false).symm

/-- Registers at their reset values read as 0, whatever the area base. -/
theorem words_of_reset (lo hi : BitVec 32) : controlWord { resetRegisters with areaLo := lo, areaHi := hi } = 0 ∧
    statusWord { resetRegisters with areaLo := lo, areaHi := hi } = 0 := by
  simp [controlWord, statusWord, resetRegisters, noFences, flagBits, runStateCode]

/-- Settles O22, column by column, and the stop that restarts. -/
theorem registerCommandFaultStateTable : Obligations.RegisterCommandFaultStateTable := by
  refine ⟨fun s hdone hrun => ?restart, fun level s => ?powerOn, fun level s => ?line,
    fun s hoff hrun hbase hrest => ?runSet, fun s hdone hrun => ?stopEnd, fun s hwrite => ?halted⟩
  case restart =>
    refine ⟨_, exec_stopEnd_of_done (by exact hdone) rfl, rfl, rfl, ?_, exec_stopEnd_restarts hdone hrun⟩
    exact (atRest_iff _).2 fun _ => stopped_resting (by exact inFlight_of_stopDone hdone)
  case powerOn =>
    obtain ⟨hcontrol, hstatus⟩ := words_of_reset resetRegisters.areaLo resetRegisters.areaHi
    exact ⟨_, exec_powerOnReset level s, hcontrol, hstatus, rfl, rfl, rfl, rfl⟩
  case line =>
    obtain ⟨hcontrol, hstatus⟩ := words_of_reset s.regs.areaLo s.regs.areaHi
    exact ⟨_, exec_resetLine level s, hcontrol, hstatus, rfl, rfl, rfl, rfl⟩
  case runSet =>
    have hresting := resting_of_off hrest hoff
    refine ⟨_, exec_runSet_of_off hoff hrun, ?_⟩
    rw [tryStart_of_valid hbase]
    refine ⟨rfl, rfl, ?_, rfl⟩
    rw [← hresting.pass, ← hresting.inFlight]
  case stopEnd =>
    refine ⟨_, exec_stopEnd_of_done hdone hrun, rfl, rfl, ?_, rfl⟩
    rw [← inFlight_of_stopDone hdone]
    rfl
  case halted => exact ⟨_, exec_faultRecordWriteFailure_of_write hwrite, rfl, rfl, rfl, rfl⟩

/-! ### The Publisher (Table 9-1) -/

/-- A part at rest holds nothing back for the host. -/
theorem Resting.outputEmpty {s : State} (h : Resting s) : OutputEmpty s := by
  refine ⟨fun sf => ?_, h.penPending, h.penHanded, h.penAccess, h.queue, h.eventsHanded, h.eventAccess⟩
  have hsurface : SurfaceAtRest (surfaceOf s sf) := by
    cases sf with
    | pad => exact h.pad
    | screen => exact h.screen
  obtain ⟨-, -, -, -, -, -, -, hpending, hshown, hhanded, haccess⟩ := hsurface
  exact ⟨hpending, hshown, hhanded, haccess⟩

/-- Settles O23, column by column. -/
theorem publisherStateTable : Obligations.PublisherStateTable := by
  refine ⟨fun level s => ?powerOn, fun level s => ?line, fun s hoff hrun hbase hrest => ?runSet,
    fun s hdone hrun => ?stopEnd, fun s hwrite => ?halted⟩
  case powerOn =>
    exact ⟨_, exec_powerOnReset level s, (resetTo_resting level s).outputEmpty, ⟨rfl, rfl, rfl, rfl⟩, rfl, rfl, rfl, rfl,
      rfl, rfl, rfl⟩
  case line =>
    exact ⟨_, exec_resetLine level s, (resetByLine_resting level s).outputEmpty, ⟨rfl, rfl, rfl, rfl⟩, rfl, rfl, rfl, rfl,
      rfl, rfl, rfl⟩
  case runSet =>
    have hresting := resting_of_off hrest hoff
    obtain ⟨hsurfaces, hrest'⟩ := hresting.outputEmpty
    refine ⟨_, exec_runSet_of_off hoff hrun, ?_⟩
    have hstarted : OutputEmpty (tryStart s) := by
      refine ⟨fun sf => ?_, ?_⟩
      · rw [surfaceOf_tryStart hbase]
        exact hsurfaces sf
      · rw [tryStart_of_valid hbase]
        exact hrest'
    refine ⟨hstarted, ?_⟩
    rw [tryStart_of_valid hbase]
    exact ⟨⟨rfl, rfl, rfl, rfl⟩, ⟨rfl, rfl, rfl, rfl⟩, rfl, rfl, rfl⟩
  case stopEnd =>
    exact ⟨_, exec_stopEnd_of_done hdone hrun, (stopped_resting (inFlight_of_stopDone hdone)).outputEmpty,
      ⟨rfl, rfl, rfl, rfl⟩, ⟨rfl, rfl, rfl, rfl⟩, rfl, rfl, rfl⟩
  case halted =>
    exact ⟨_, exec_faultRecordWriteFailure_of_write hwrite, (enterHalted_resting s).outputEmpty, ⟨rfl, rfl, rfl, rfl⟩,
      ⟨rfl, rfl, rfl, rfl⟩, rfl, rfl, rfl⟩

/-! ### Line inputs, the watch and the image (Table 10-1) -/

theorem showTaken_area (s : State) : (showTaken s).area = takenImage s := by
  cases hf : s.command.inFlight with
  | none => simp only [showTaken, takenImage, hf]
  | some f =>
    simp only [showTaken, hf]
    rw [ackTaken_eq hf]

/-- Settles O24, column by column. -/
theorem lineInputsAndWatchStateTable : Obligations.LineInputsAndWatchStateTable := by
  refine ⟨⟨fun level s => ?powerOn, fun level s => ?line, fun s hoff hrun hbase hrest => ?runSet,
    fun s hdone hrun => ?stopEnd, fun s hwrite => ?halted⟩, fun level s t h => ?_, fun level s t h => ?_⟩
  case powerOn => exact ⟨_, exec_powerOnReset level s, rfl, rfl, rfl, rfl, rfl, rfl, rfl⟩
  case line => exact ⟨_, exec_resetLine level s, rfl, rfl, rfl, rfl, rfl, rfl, rfl⟩
  case runSet =>
    have hresting := resting_of_off hrest hoff
    refine ⟨_, exec_runSet_of_off hoff hrun, ?_⟩
    rw [tryStart_of_valid hbase]
    refine ⟨?_, rfl, rfl, hresting.wakeReported, rfl, rfl, rfl, rfl⟩
    rw [← hresting.typing]
  case stopEnd => exact ⟨_, exec_stopEnd_of_done hdone hrun, rfl, rfl, rfl, rfl, rfl, rfl, rfl, rfl⟩
  case halted =>
    exact ⟨_, exec_faultRecordWriteFailure_of_write hwrite, rfl, rfl, rfl, rfl, rfl, showTaken_area s, rfl, rfl⟩
  · cases (exec_powerOnReset level s).symm.trans h
    exact ⟨rfl, rfl⟩
  · cases (exec_resetLine level s).symm.trans h
    exact ⟨rfl, rfl, rfl⟩

end Sys2Proof.Machine
end

section
/-! Blob extraction (R15 to R18): the lit cells, their components, and the blobs the limit keeps. -/

namespace Sys2Proof.Machine

/-! ### Lit cells -/

theorem litValue_eq (v : Int) : (max 0 v).toNat = v.toNat := by omega

theorem mem_litCells {cols threshold : Nat} {c : LitCell} (k : Nat) (cells : List Int) :
    c ∈ litCells cols threshold k cells ↔ ∃ i v, cells[i]? = some v ∧ threshold ≤ v.toNat ∧
      c = { col := (k + i) % cols, row := (k + i) / cols, value := v.toNat } := by
  induction cells generalizing k with
  | nil => simp [litCells]
  | cons v vs ih =>
    have hcons : c ∈ litCells cols threshold k (v :: vs) ↔
        (threshold ≤ v.toNat ∧ c = { col := k % cols, row := k / cols, value := v.toNat }) ∨
          c ∈ litCells cols threshold (k + 1) vs := by
      by_cases hlit : threshold ≤ v.toNat <;> simp [litCells, hlit]
    rw [hcons, ih]
    constructor
    · rintro (⟨hlit, hc⟩ | ⟨i, w, hw, hlit, hc⟩)
      · exact ⟨0, v, rfl, hlit, hc⟩
      · exact ⟨i + 1, w, by simpa using hw, hlit, by rw [hc]; congr 2 <;> omega⟩
    · rintro ⟨i, w, hw, hlit, hc⟩
      cases i with
      | zero =>
        obtain rfl : v = w := by simpa using hw
        exact .inl ⟨hlit, hc⟩
      | succ i => exact .inr ⟨i, w, by simpa using hw, hlit, by rw [hc]; congr 2 <;> omega⟩

theorem mem_litCells_iff_isLit {sf : Surface} {p : SurfaceParams} {cells : List Int} {c : LitCell} :
    c ∈ litCells (Config.cols sf) p.touchThreshold 0 cells ↔ IsLit sf p cells c := by
  simp only [mem_litCells, IsLit, litValue_eq, Nat.zero_add]

/-- Cells enter the list in raster order, so no two lit cells have the same place. -/
theorem litCells_raster (cols threshold k : Nat) (cells : List Int) :
    (litCells cols threshold k cells).Pairwise fun a b => rasterOf cols a < rasterOf cols b := by
  induction cells generalizing k with
  | nil => exact .nil
  | cons v vs ih =>
    have hcons : (({ col := k % cols, row := k / cols, value := v.toNat } : LitCell) ::
        litCells cols threshold (k + 1) vs).Pairwise fun a b => rasterOf cols a < rasterOf cols b := by
      refine List.pairwise_cons.mpr ⟨fun c hc => ?_, ih (k + 1)⟩
      obtain ⟨i, w, -, -, rfl⟩ := (mem_litCells _ _).mp hc
      simp only [rasterOf, Nat.div_add_mod']
      omega
    by_cases hlit : threshold ≤ v.toNat
    · simpa [litCells, hlit] using hcons
    · simpa [litCells, hlit] using ih (k + 1)

/-! ### Components -/

/-- The components of a set of cells: every cell of it stands in exactly one, once, and two stand in the same one
exactly when a path of such cells joins them. -/
def PartsOf (lit : LitCell → Prop) (parts : List (List LitCell)) : Prop :=
  (∀ c, lit c ↔ ∃ k ∈ parts, c ∈ k) ∧ parts.flatten.Nodup ∧ [] ∉ parts ∧
    ∀ k ∈ parts, ∀ a ∈ k, ∀ b, b ∈ k ↔ Relation.ReflTransGen (fun a b => SideBySide a b ∧ lit b) a b

theorem areComponents_iff_partsOf {sf : Surface} {p : SurfaceParams} {cells : List Int}
    {parts : List (List LitCell)} : AreComponents sf p cells parts ↔ PartsOf (IsLit sf p cells) parts :=
  Iff.rfl

theorem sharesSide_iff {a b : LitCell} : sharesSide a b = true ↔ SideBySide a b := by
  simp [sharesSide, SideBySide]

theorem beside_symm {a b : LitCell} (h : SideBySide a b) : SideBySide b a := by
  unfold SideBySide at *
  omega

/-- A set of cells that no step leaves holds whatever a path reaches from it. -/
theorem mem_of_path {r : LitCell → LitCell → Prop} {k : List LitCell} {a b : LitCell}
    (hpath : Relation.ReflTransGen r a b) (ha : a ∈ k) (hstep : ∀ x ∈ k, ∀ y, r x y → y ∈ k) : b ∈ k := by
  induction hpath with
  | refl => exact ha
  | tail _ hlast ih => exact hstep _ ih _ hlast

variable {lit : LitCell → Prop} {parts : List (List LitCell)} {c : LitCell}

theorem mem_part_of_beside (hparts : PartsOf lit parts) {k : List LitCell} (hk : k ∈ parts) {x y : LitCell}
    (hx : x ∈ k) (hbeside : SideBySide x y) (hy : lit y) : y ∈ k := by
  obtain ⟨-, -, -, hpath⟩ := hparts
  exact (hpath k hk x hx y).mpr (.single ⟨hbeside, hy⟩)

theorem path_widens {a b : LitCell} (h : Relation.ReflTransGen (fun a b => SideBySide a b ∧ lit b) a b) :
    Relation.ReflTransGen (fun a b => SideBySide a b ∧ (lit b ∨ b = c)) a b :=
  h.lift id fun _ _ ⟨hbeside, hlit⟩ => ⟨hbeside, .inl hlit⟩

/-- A component that the new cell touches is joined to it by paths both ways. -/
theorem path_of_near (hparts : PartsOf lit parts) {k : List LitCell} (hk : k ∈ parts)
    (hnear : ∃ z ∈ k, SideBySide c z) {x : LitCell} (hx : x ∈ k) :
    Relation.ReflTransGen (fun a b => SideBySide a b ∧ (lit b ∨ b = c)) x c ∧
      Relation.ReflTransGen (fun a b => SideBySide a b ∧ (lit b ∨ b = c)) c x := by
  obtain ⟨hmem, -, -, hpath⟩ := hparts
  obtain ⟨z, hz, hbeside⟩ := hnear
  have hlit : lit z := (hmem z).mpr ⟨k, hk, hz⟩
  exact ⟨(path_widens ((hpath k hk x hx z).mp hz)).tail ⟨(beside_symm hbeside), .inr rfl⟩,
    (path_widens ((hpath k hk z hz x).mp hx)).head ⟨hbeside, .inl hlit⟩⟩

theorem mem_near_iff {k : List LitCell} : (k ∈ parts.filter fun k => k.any (sharesSide c)) ↔
    k ∈ parts ∧ ∃ z ∈ k, SideBySide c z := by
  simp [List.mem_filter, sharesSide_iff]

theorem mem_far_iff {k : List LitCell} : (k ∈ parts.filter fun k => !k.any (sharesSide c)) ↔
    k ∈ parts ∧ ∀ z ∈ k, ¬ SideBySide c z := by
  simp [List.mem_filter, Bool.eq_false_iff, sharesSide_iff]

theorem mem_addToComponents {k : List LitCell} : k ∈ addToComponents parts c ↔
    (k ∈ parts ∧ ∀ z ∈ k, ¬ SideBySide c z) ∨
      k = (parts.filter fun k => k.any (sharesSide c)).flatten ++ [c] := by
  rw [← mem_far_iff]
  simp [addToComponents]

theorem mem_joined {x : LitCell} : x ∈ (parts.filter fun k => k.any (sharesSide c)).flatten ++ [c] ↔
    (∃ k ∈ parts, (∃ z ∈ k, SideBySide c z) ∧ x ∈ k) ∨ x = c := by
  simp only [List.mem_append, List.mem_flatten, mem_near_iff, List.mem_singleton, and_assoc]

theorem addToComponents_perm : (addToComponents parts c).flatten.Perm (parts.flatten ++ [c]) := by
  have hsplit := (List.filter_append_perm (fun k : List LitCell => k.any (sharesSide c)) parts).flatten
  simp only [addToComponents, List.flatten_append, List.flatten_cons, List.flatten_nil, List.append_nil,
    ← List.append_assoc] at hsplit ⊢
  exact (List.perm_append_comm.trans hsplit).append_right [c]

/-- Adding a cell to the components of a set of cells gives the components of the set with it. -/
theorem partsOf_addToComponents (hparts : PartsOf lit parts) (hc : ¬ lit c) :
    PartsOf (fun x => lit x ∨ x = c) (addToComponents parts c) := by
  obtain ⟨hmem, hnodup, hne, hpath⟩ := id hparts
  refine ⟨fun x => ?_, ?_, ?_, fun k hk a ha b => ⟨fun hb => ?_, fun hb => ?_⟩⟩
  · have hflat := (addToComponents_perm (parts := parts) (c := c)).mem_iff (a := x)
    simpa [List.mem_flatten, hmem x] using hflat.symm
  · refine (addToComponents_perm (parts := parts) (c := c)).nodup_iff.mpr ?_
    refine List.nodup_append.mpr ⟨hnodup, List.nodup_singleton c, fun x hx y hy => ?_⟩
    rintro rfl
    obtain rfl := List.mem_singleton.mp hy
    exact hc ((hmem x).mpr (List.mem_flatten.mp hx))
  · rintro hnil
    obtain ⟨hold, -⟩ | hjoined := mem_addToComponents.mp hnil
    · exact hne hold
    · simp at hjoined
  · obtain ⟨hold, -⟩ | rfl := mem_addToComponents.mp hk
    · exact path_widens ((hpath k hold a ha b).mp hb)
    · have hto : Relation.ReflTransGen (fun a b => SideBySide a b ∧ (lit b ∨ b = c)) a c := by
        obtain ⟨k, hk, hnear, ha⟩ | rfl := mem_joined.mp ha
        · exact (path_of_near hparts hk hnear ha).1
        · exact .refl
      have hfrom : Relation.ReflTransGen (fun a b => SideBySide a b ∧ (lit b ∨ b = c)) c b := by
        obtain ⟨k, hk, hnear, hb⟩ | rfl := mem_joined.mp hb
        · exact (path_of_near hparts hk hnear hb).2
        · exact .refl
      exact hto.trans hfrom
  · refine mem_of_path hb ha fun x hx y ⟨hbeside, hy⟩ => ?_
    obtain ⟨hold, hfar⟩ | rfl := mem_addToComponents.mp hk
    · obtain hlit | rfl := hy
      · exact mem_part_of_beside hparts hold hx hbeside hlit
      · exact absurd (beside_symm hbeside) (hfar x hx)
    · refine mem_joined.mpr ?_
      obtain hlit | rfl := hy
      · left
        obtain ⟨k, hk, hnear, hxk⟩ | rfl := mem_joined.mp hx
        · exact ⟨k, hk, hnear, mem_part_of_beside hparts hk hxk hbeside hlit⟩
        · obtain ⟨k, hk, hyk⟩ := (hmem y).mp hlit
          exact ⟨k, hk, ⟨y, hyk, hbeside⟩, hyk⟩
      · exact .inr rfl

theorem PartsOf.congr {other : LitCell → Prop} (hparts : PartsOf lit parts) (h : ∀ c, lit c ↔ other c) :
    PartsOf other parts := by
  obtain rfl : lit = other := funext fun c => propext (h c)
  exact hparts

theorem partsOf_foldl (l before : List LitCell) {parts : List (List LitCell)} (hnodup : (before ++ l).Nodup)
    (hparts : PartsOf (· ∈ before) parts) : PartsOf (· ∈ before ++ l) (l.foldl addToComponents parts) := by
  induction l generalizing before parts with
  | nil => simpa using hparts
  | cons c l ih =>
    have hsplit : before ++ c :: l = (before ++ [c]) ++ l := by simp
    have hc : c ∉ before := fun hmem =>
      (List.nodup_append.mp hnodup).2.2 c hmem c (by simp) rfl
    rw [hsplit] at hnodup ⊢
    exact ih _ hnodup ((partsOf_addToComponents hparts hc).congr (by simp))

/-- R16: the components of a list of distinct cells. -/
theorem components_partsOf {cells : List LitCell} (hnodup : cells.Nodup) :
    PartsOf (· ∈ cells) (components cells) :=
  partsOf_foldl cells [] hnodup ⟨by simp, by simp, by simp, by simp⟩

end Sys2Proof.Machine
end

section
/-! The blob records of a frame and the blob limit (R17 to R22). -/

namespace Sys2Proof.Machine

/-! ### Least and greatest -/

theorem leastOver_leastOf {k : List LitCell} (hk : k ≠ []) (f : LitCell → Nat) :
    LeastOver k f (leastOf (k.map f)) := by
  obtain ⟨n, hn⟩ := Option.isSome_iff_exists.mp (List.isSome_min?_of_ne_nil (by simpa using hk : k.map f ≠ []))
  obtain ⟨hmem, hle⟩ := List.min?_eq_some_iff.mp hn
  simp only [leastOf, hn, Option.getD_some]
  exact ⟨by simpa using hmem, fun c hc => hle _ (List.mem_map_of_mem hc)⟩

theorem greatestOver_greatestOf {k : List LitCell} (hk : k ≠ []) (f : LitCell → Nat) :
    GreatestOver k f (greatestOf (k.map f)) := by
  obtain ⟨n, hn⟩ := Option.isSome_iff_exists.mp (List.isSome_max?_of_ne_nil (by simpa using hk : k.map f ≠ []))
  obtain ⟨hmem, hle⟩ := List.max?_eq_some_iff.mp hn
  simp only [greatestOf, hn, Option.getD_some]
  exact ⟨by simpa using hmem, fun c hc => hle _ (List.mem_map_of_mem hc)⟩

/-! ### The blob record -/

theorem isBlobOf_blobOf {sf : Surface} {p : SurfaceParams} {k : List LitCell} (hk : k ≠ []) :
    IsBlobOf sf p k (blobOf (Config.cols sf) (Config.rows sf) p.squared k) := by
  refine ⟨leastOver_leastOf hk _, rfl, rfl, greatestOver_greatestOf hk _, leastOver_leastOf hk _,
    greatestOver_greatestOf hk _, leastOver_leastOf hk _, greatestOver_greatestOf hk _, ?_, rfl, rfl, rfl, rfl, rfl⟩
  simp only [blobOf, Bool.or_eq_true, beq_iff_eq, or_assoc]

/-- The number a blob is given is no part of its component's record. -/
theorem isBlobOf_withIndex {sf : Surface} {p : SurfaceParams} {k : List LitCell} {b : Blob}
    (h : IsBlobOf sf p k b) (i : Nat) : IsBlobOf sf p k { b with index := i } := h

/-- A weighted mean of values, in 256ths and rounded down, lies between bounds of the values. -/
theorem weightedMean_within {l : List LitCell} (hl : l ≠ []) {w f : LitCell → Nat} (hw : ∀ c ∈ l, 1 ≤ w c)
    {low high : Nat} (hf : ∀ c ∈ l, low ≤ f c ∧ f c ≤ high) :
    low * 256 ≤ 256 * (l.map fun c => w c * f c).sum / (l.map w).sum ∧
      256 * (l.map fun c => w c * f c).sum / (l.map w).sum ≤ high * 256 := by
  have hsums : low * (l.map w).sum ≤ (l.map fun c => w c * f c).sum ∧
      (l.map fun c => w c * f c).sum ≤ high * (l.map w).sum := by
    rw [← List.sum_map_mul_left, ← List.sum_map_mul_left]
    refine ⟨List.sum_le_sum fun c hc => ?_, List.sum_le_sum fun c hc => ?_⟩
    · rw [Nat.mul_comm]
      exact Nat.mul_le_mul_left _ (hf c hc).1
    · rw [Nat.mul_comm high]
      exact Nat.mul_le_mul_left _ (hf c hc).2
  have hpos : 0 < (l.map w).sum := by
    obtain ⟨c, hc⟩ := List.exists_mem_of_ne_nil l hl
    exact (hw c hc).trans (List.le_sum_of_mem (List.mem_map_of_mem hc))
  obtain ⟨hlow, hhigh⟩ := hsums
  constructor
  · rw [Nat.le_div_iff_mul_le hpos]
    nlinarith
  · refine Nat.div_le_of_le_mul ?_
    nlinarith

/-- R21: the centroid of a component lies within its bounding box. -/
theorem centroid_within {cols rows : Nat} {squared : Bool} {cells : List LitCell} (hne : cells ≠ [])
    (hvalue : ∀ c ∈ cells, 1 ≤ c.value) :
    let b := blobOf cols rows squared cells
    ((b.minCol * 256 : Nat) : Int) ≤ b.centroid.x ∧ b.centroid.x ≤ ((b.maxCol * 256 : Nat) : Int) ∧
    ((b.minRow * 256 : Nat) : Int) ≤ b.centroid.y ∧ b.centroid.y ≤ ((b.maxRow * 256 : Nat) : Int) := by
  have hweight : ∀ c ∈ cells, 1 ≤ weightOf squared c := fun c hc => by
    have := hvalue c hc
    unfold weightOf
    split
    · exact Nat.mul_pos this this
    · exact this
  have bounded (f : LitCell → Nat) : ∀ c ∈ cells,
      leastOf (cells.map f) ≤ f c ∧ f c ≤ greatestOf (cells.map f) := fun c hc =>
    ⟨(leastOver_leastOf hne f).2 c hc, (greatestOver_greatestOf hne f).2 c hc⟩
  obtain ⟨hleft, hright⟩ := weightedMean_within hne hweight (bounded (·.col))
  obtain ⟨htop, hbottom⟩ := weightedMean_within hne hweight (bounded (·.row))
  exact ⟨Int.ofNat_le.mpr hleft, Int.ofNat_le.mpr hright, Int.ofNat_le.mpr htop, Int.ofNat_le.mpr hbottom⟩

/-! ### The blob limit -/

/-- The order of R18: of two candidates the one of the greater signal, then of the lower raster index. -/
abbrev Stronger (a b : Blob) : Prop := b.signal < a.signal ∨ (a.signal = b.signal ∧ a.raster ≤ b.raster)

theorem strongest_sorted (l : List Blob) :
    (l.insertionSort fun a b => b.signal < a.signal ∨ (a.signal = b.signal ∧ a.raster ≤ b.raster)).Pairwise
      Stronger := by
  have stronger_total : Std.Total (fun a b : Blob => b.signal < a.signal ∨
      (a.signal = b.signal ∧ a.raster ≤ b.raster)) := ⟨fun a b => by omega⟩
  have stronger_trans : IsTrans Blob (fun a b : Blob => b.signal < a.signal ∨
      (a.signal = b.signal ∧ a.raster ≤ b.raster)) := ⟨fun a b d => by omega⟩
  exact List.pairwise_insertionSort _ l

theorem inRaster_sorted (l : List Blob) :
    (l.insertionSort fun a b => a.raster ≤ b.raster).Pairwise fun a b => a.raster ≤ b.raster := by
  have raster_total : Std.Total (fun a b : Blob => a.raster ≤ b.raster) := ⟨fun a b => by omega⟩
  have raster_trans : IsTrans Blob (fun a b : Blob => a.raster ≤ b.raster) := ⟨fun a b d => by omega⟩
  exact List.pairwise_insertionSort _ l

/-- What the limit keeps and what it drops, among the candidates. -/
theorem keepStrongest_splits (limit : Nat) (l : List Blob) : ∃ dropped,
    (keepStrongest limit l ++ dropped).Perm l ∧ (keepStrongest limit l).length = min limit l.length ∧
      ∀ b ∈ keepStrongest limit l, ∀ d ∈ dropped, Stronger b d := by
  let sorted := l.insertionSort fun a b => b.signal < a.signal ∨ (a.signal = b.signal ∧ a.raster ≤ b.raster)
  have hperm : (keepStrongest limit l).Perm (sorted.take limit) := List.perm_insertionSort _ _
  refine ⟨sorted.drop limit, ?_, ?_, fun b hb d hd => ?_⟩
  · refine (hperm.append_right _).trans ?_
    rw [List.take_append_drop]
    exact List.perm_insertionSort _ l
  · rw [hperm.length_eq, List.length_take, List.length_insertionSort]
  · have hsorted := strongest_sorted l
    rw [← List.take_append_drop limit (l.insertionSort fun a b =>
      b.signal < a.signal ∨ (a.signal = b.signal ∧ a.raster ≤ b.raster))] at hsorted
    exact (List.pairwise_append.mp hsorted).2.2 b (hperm.mem_iff.mp hb) d hd

/-! ### Numbering -/

theorem getElem?_numberBlobs (k : Nat) (l : List Blob) (i : Nat) :
    (numberBlobs k l)[i]? = l[i]?.map fun b => { b with index := k + i } := by
  induction l generalizing k i with
  | nil => rfl
  | cons b l ih =>
    cases i with
    | zero => rfl
    | succ i => simp [numberBlobs, ih, Nat.add_comm, Nat.add_left_comm]

theorem mem_numberBlobs {k : Nat} {l : List Blob} {b : Blob} (hb : b ∈ numberBlobs k l) :
    ∃ a ∈ l, ∃ i, b = { a with index := i } := by
  induction l generalizing k with
  | nil => simp [numberBlobs] at hb
  | cons a l ih =>
    obtain rfl | hb := List.mem_cons.mp hb
    · exact ⟨a, by simp, k, rfl⟩
    · obtain ⟨x, hx, hi⟩ := ih hb
      exact ⟨x, List.mem_cons_of_mem _ hx, hi⟩

theorem exists_numberBlobs_of_mem {l : List Blob} {a : Blob} (k : Nat) (ha : a ∈ l) :
    ∃ i, { a with index := i } ∈ numberBlobs k l := by
  induction l generalizing k with
  | nil => simp at ha
  | cons x l ih =>
    obtain rfl | ha := List.mem_cons.mp ha
    · exact ⟨k, by simp [numberBlobs]⟩
    · obtain ⟨i, hi⟩ := ih (k + 1) ha
      exact ⟨i, List.mem_cons_of_mem _ hi⟩

theorem length_numberBlobs (k : Nat) (l : List Blob) : (numberBlobs k l).length = l.length := by
  induction l generalizing k with
  | nil => rfl
  | cons a l ih => simp [numberBlobs, ih]

theorem numberBlobs_raster {l : List Blob} (h : l.Pairwise fun a b => a.raster < b.raster) (k : Nat) :
    (numberBlobs k l).Pairwise fun a b => a.raster < b.raster := by
  induction l generalizing k with
  | nil => exact .nil
  | cons a l ih =>
    obtain ⟨ha, hl⟩ := List.pairwise_cons.mp h
    refine List.pairwise_cons.mpr ⟨fun b hb => ?_, ih hl (k + 1)⟩
    obtain ⟨x, hx, i, rfl⟩ := mem_numberBlobs hb
    exact ha x hx

/-! ### The candidates -/

/-- Two cells of the list in one place are one cell. -/
theorem litCells_raster_inj {cols threshold k : Nat} {cells : List Int} {a b : LitCell}
    (ha : a ∈ litCells cols threshold k cells) (hb : b ∈ litCells cols threshold k cells)
    (h : rasterOf cols a = rasterOf cols b) : a = b := by
  obtain ⟨i, v, hv, -, rfl⟩ := (mem_litCells _ _).mp ha
  obtain ⟨j, w, hw, -, rfl⟩ := (mem_litCells _ _).mp hb
  simp only [rasterOf, Nat.div_add_mod'] at h
  obtain rfl : i = j := by omega
  obtain rfl : v = w := Option.some_inj.mp (hv.symm.trans hw)
  rfl

theorem litCells_nodup (cols threshold k : Nat) (cells : List Int) : (litCells cols threshold k cells).Nodup :=
  (litCells_raster cols threshold k cells).imp fun {a b} hlt hab => by
    rw [hab] at hlt
    exact lt_irrefl _ hlt

/-- R18: no two candidates have the same raster index. -/
theorem candidates_raster_ne (cols rows : Nat) (p : SurfaceParams) (cells : List Int) :
    (candidates cols rows p cells).Pairwise fun a b => a.raster ≠ b.raster := by
  obtain ⟨hmem, hnodup, hne, -⟩ := components_partsOf (litCells_nodup cols p.touchThreshold 0 cells)
  refine List.pairwise_map.mpr (List.Pairwise.filter _ ?_)
  refine List.Pairwise.imp_of_mem (fun {k l} hk hl hdisjoint hraster => ?_) (List.nodup_flatten.mp hnodup).2
  obtain ⟨a, ha, haraster⟩ := (leastOver_leastOf (ne_of_mem_of_not_mem hk hne) (rasterOf cols)).1
  obtain ⟨b, hb, hbraster⟩ := (leastOver_leastOf (ne_of_mem_of_not_mem hl hne) (rasterOf cols)).1
  obtain rfl := litCells_raster_inj ((hmem a).mpr ⟨k, hk, ha⟩) ((hmem b).mpr ⟨l, hl, hb⟩)
    (haraster.trans (hraster.trans hbraster.symm))
  exact hdisjoint ha hb

/-- The kept blobs stand in raster order, and none shares its raster index with one dropped. -/
theorem keepStrongest_raster {limit : Nat} {l dropped : List Blob}
    (hperm : (keepStrongest limit l ++ dropped).Perm l) (hl : l.Pairwise fun a b => a.raster ≠ b.raster) :
    ((keepStrongest limit l).Pairwise fun a b => a.raster < b.raster) ∧
      ∀ b ∈ keepStrongest limit l, ∀ d ∈ dropped, b.raster ≠ d.raster := by
  obtain ⟨hkept, -, hapart⟩ :=
    List.pairwise_append.mp ((hperm.pairwise_iff fun hne => Ne.symm hne).mpr hl)
  have hsorted : (keepStrongest limit l).Pairwise fun a b => a.raster ≤ b.raster := inRaster_sorted _
  exact ⟨hsorted.and hkept |>.imp fun ⟨hle, hne⟩ => lt_of_le_of_ne hle hne, hapart⟩

theorem blobLimit_eq (sf : Surface) : Config.blobLimit sf = if sf = .pad then 8 else 16 := by
  cases sf <;> rfl

/-- Settles O37. The extractor joins each lit cell to the components it touches; of the candidates it keeps a head
of the list sorted by strength, and no two candidates have the same raster index. -/
theorem centroidWithinBoundingBox : Obligations.CentroidWithinBoundingBox := by
  refine ⟨fun sf p cells => ?_, fun cols rows squared cells hne hvalue => centroid_within hne hvalue⟩
  have hparts := components_partsOf (litCells_nodup (Config.cols sf) p.touchThreshold 0 cells)
  obtain ⟨dropped, hperm, hlength, hstronger⟩ := keepStrongest_splits (Config.blobLimit sf)
    (candidates (Config.cols sf) (Config.rows sf) p cells)
  obtain ⟨hraster, hapart⟩ := keepStrongest_raster hperm (candidates_raster_ne _ _ p cells)
  have hnonempty : ∀ k ∈ (components (litCells (Config.cols sf) p.touchThreshold 0 cells)), k ≠ [] :=
    fun k hk => ne_of_mem_of_not_mem hk hparts.2.2.1
  refine ⟨components (litCells (Config.cols sf) p.touchThreshold 0 cells),
    hparts.congr fun c => mem_litCells_iff_isLit, ?_, ?_, fun b hb => ?_, fun k hk => ?_,
    numberBlobs_raster hraster 0, fun i b hb => ?_⟩
  · rw [← blobLimit_eq]
    exact (length_numberBlobs 0 _).trans (hlength.trans (by rw [candidates, List.length_map]))
  · rw [← blobLimit_eq]
    exact congrArg (· - Config.blobLimit sf) (List.length_map ..)
  · obtain ⟨a, ha, i, rfl⟩ := mem_numberBlobs hb
    obtain ⟨k, hk, rfl⟩ := List.mem_map.mp (hperm.mem_iff.mp (List.mem_append_left _ ha))
    exact ⟨k, hk, isBlobOf_withIndex (isBlobOf_blobOf (hnonempty k (List.mem_of_mem_filter hk))) i⟩
  · have hblob := isBlobOf_blobOf (sf := sf) (p := p) (hnonempty k (List.mem_of_mem_filter hk))
    obtain hkept | hdropped := List.mem_append.mp (hperm.mem_iff.mpr (List.mem_map_of_mem hk))
    · obtain ⟨i, hi⟩ := exists_numberBlobs_of_mem 0 hkept
      exact .inl ⟨_, hi, isBlobOf_withIndex hblob i⟩
    · refine .inr fun b hb => ?_
      obtain ⟨a, ha, i, rfl⟩ := mem_numberBlobs hb
      refine (hstronger a ha _ hdropped).imp id fun ⟨hsignal, hle⟩ => ⟨hsignal.symm, fun c hc => ?_⟩
      exact (lt_of_le_of_ne hle (hapart a ha _ hdropped)).trans_le (hblob.1.2 c hc)
  · have hnumbered := (getElem?_numberBlobs 0 _ i).symm.trans hb
    obtain ⟨a, -, rfl⟩ := Option.map_eq_some_iff.mp hnumbered
    exact Nat.zero_add i

end Sys2Proof.Machine
end

section
/-! Matching and creation in a tracked frame (R46 to R54): the claims in turn, what each contact becomes by its
claim, and the contacts that the blobs left create. -/

namespace Sys2Proof.Machine

/-! ### The nearest blob (R48) -/

theorem ptDist_eq (a b : Pt) : ptDist a b = octagonal a b := mappedPointFollowsRules.1 a b

/-- R48: the blob found is within the gate, nearer than those before it and no farther than those after it. -/
def NearestOf (gate : Nat) (p : Pt) (blobs : List Blob) : Option Blob → Prop
  | some b => ptDist p b.centroid ≤ gate ∧ ∃ pre post, blobs = pre ++ b :: post ∧
      (∀ c ∈ pre, ptDist p b.centroid < ptDist p c.centroid) ∧ ∀ c ∈ post, ptDist p b.centroid ≤ ptDist p c.centroid
  | none => ∀ c ∈ blobs, gate < ptDist p c.centroid

theorem nearestBlob_nearestOf (gate : Nat) (p : Pt) (blobs : List Blob) :
    NearestOf gate p blobs (nearestBlob gate p blobs) := by
  induction blobs with
  | nil => exact fun c hc => nomatch hc
  | cons b bs ih =>
    rw [nearestBlob]
    cases hr : nearestBlob gate p bs with
    | none =>
      rw [hr] at ih
      by_cases hd : ptDist p b.centroid ≤ gate
      · simp only [if_pos hd]
        exact ⟨hd, [], bs, rfl, by simp, fun c hc => hd.trans (ih c hc).le⟩
      · simp only [if_neg hd]
        exact List.forall_mem_cons.mpr ⟨not_le.mp hd, ih⟩
    | some r =>
      rw [hr] at ih
      obtain ⟨hgate, pre, post, rfl, hpre, hpost⟩ := ih
      by_cases hd : ptDist p b.centroid ≤ ptDist p r.centroid
      · simp only [if_pos hd]
        refine ⟨hd.trans hgate, [], _, rfl, by simp, fun c hc => hd.trans ?_⟩
        obtain hc | hc := List.mem_append.mp hc
        · exact (hpre c hc).le
        · obtain rfl | hc := List.mem_cons.mp hc
          · exact le_rfl
          · exact hpost c hc
      · simp only [if_neg hd]
        exact ⟨hgate, b :: pre, post, rfl, List.forall_mem_cons.mpr ⟨not_le.mp hd, hpre⟩, hpost⟩

/-! ### Claims in turn (R48) -/

theorem unclaimed_nil (bs : List Blob) : unclaimed bs [] = bs := by simp [unclaimed]

theorem unclaimed_cons (bs : List Blob) (c : Option Blob) (cs : List (Option Blob)) :
    unclaimed bs (c :: cs) = unclaimed (unclaimed bs [c]) cs := by
  simp only [unclaimed, List.filter_filter, List.all_cons, List.all_nil, Bool.and_true]
  exact List.filter_congr fun b _ => Bool.and_comm _ _

theorem unclaimed_none (bs : List Blob) : unclaimed bs [none] = bs := by simp [unclaimed]

theorem unclaimed_some (bs : List Blob) (b : Blob) :
    unclaimed bs [some b] = bs.filter fun x => x.index != b.index := by
  simp only [unclaimed, List.all_cons, List.all_nil, Bool.and_true, Option.all_some]
  refine List.filter_congr fun x _ => ?_
  exact bne_comm

/-- The claim of one contact among the blobs left. -/
def blobClaim (p : SurfaceParams) (gap : Bool) (k : Contact) (blobs : List Blob) : Option Blob :=
  if k.state = .ended then none else
    nearestBlob p.gate { x := k.centroid.x + (matchingVelocity gap k).x, y := k.centroid.y + (matchingVelocity gap k).y }
      blobs

/-- The claims of contacts in the order given. -/
def claimsFrom (p : SurfaceParams) (gap : Bool) : List Contact → List Blob → List (Option Blob)
  | [], _ => []
  | k :: ks, bs => blobClaim p gap k bs :: claimsFrom p gap ks (unclaimed bs [blobClaim p gap k bs])

theorem claimsFrom_inTurn (p : SurfaceParams) (gap : Bool) (old : List Contact) (blobs : List Blob) :
    ClaimsInTurn p gap blobs old (claimsFrom p gap old blobs) := by
  induction old generalizing blobs with
  | nil => exact ⟨rfl, by simp⟩
  | cons k ks ih =>
    obtain ⟨hlength, hclaims⟩ := ih (unclaimed blobs [blobClaim p gap k blobs])
    refine ⟨congrArg (· + 1) hlength, fun i x hx => ?_⟩
    cases i with
    | zero =>
      obtain rfl : k = x := by simpa using hx
      simp [claimsFrom, blobClaim, unclaimed_nil]
    | succ i =>
      rw [claimsFrom, List.take_succ_cons, unclaimed_cons blobs _ (List.take i _)]
      exact hclaims i x (by simpa using hx)

/-! ### Contacts by their claims (R49, R50) -/

/-- A contact as it enters matching, its velocity 0 in a frame with the gap marker (R33). -/
def stilled (gap : Bool) (k : Contact) : Contact := { k with velocity := matchingVelocity gap k }

theorem stilled_table (gap : Bool) (l : List Contact) :
    (if gap = true then l.map fun k => { k with velocity := ⟨0, 0⟩ } else l) = l.map (stilled gap) := by
  cases gap with
  | true => rfl
  | false => exact (List.map_id l).symm

theorem byCreation_stilled (c : BitVec 32) (gap : Bool) (l : List Contact) :
    byCreation c (l.map (stilled gap)) = (byCreation c l).map (stilled gap) :=
  (List.map_insertionSort _ _ (stilled gap) l fun _ _ _ _ => Iff.rfl).symm

theorem takeBlob_stilled (p : SurfaceParams) (gap : Bool) (b : Blob) (k : Contact) :
    takeBlob p gap b (stilled gap k) = matchedContact p gap (some b) k := rfl

theorem missBlob_stilled (p : SurfaceParams) (gap : Bool) {k : Contact} (hk : k.state ≠ .ended) :
    missBlob p.coastFrames (stilled gap k) = matchedContact p gap none k :=
  ((if_neg hk).trans rfl).symm

theorem matchContacts_stilled (p : SurfaceParams) (gap : Bool) (old : List Contact) (blobs : List Blob) :
    matchContacts p gap (old.map (stilled gap)) blobs =
      (List.zipWith (matchedContact p gap) (claimsFrom p gap old blobs) old,
        unclaimed blobs (claimsFrom p gap old blobs)) := by
  induction old generalizing blobs with
  | nil => simp [matchContacts, claimsFrom, unclaimed_nil]
  | cons k ks ih =>
    have hunclaimed := unclaimed_cons blobs (blobClaim p gap k blobs)
      (claimsFrom p gap ks (unclaimed blobs [blobClaim p gap k blobs]))
    rw [List.map_cons, matchContacts, claimsFrom, List.zipWith_cons_cons, hunclaimed]
    by_cases hended : k.state = .ended
    · have hclaim : blobClaim p gap k blobs = none := if_pos hended
      have hmatched : matchedContact p gap none k = stilled gap k := if_pos hended
      rw [if_pos (by exact hended), hclaim, unclaimed_none, ih, hmatched]
    · have hclaim : blobClaim p gap k blobs = nearestBlob p.gate (prediction (stilled gap k)) blobs := if_neg hended
      rw [if_neg (by exact hended), hclaim]
      cases nearestBlob p.gate (prediction (stilled gap k)) blobs with
      | none => simp only [unclaimed_none, ih, missBlob_stilled p gap hended]
      | some b => simp only [← unclaimed_some, ih, takeBlob_stilled]

theorem matchedContact_slot (p : SurfaceParams) (gap : Bool) (claim : Option Blob) (k : Contact) :
    (matchedContact p gap claim k).slot = k.slot := by
  unfold matchedContact
  split
  · rfl
  · dsimp only
    split_ifs <;> rfl

theorem matchedContact_id (p : SurfaceParams) (gap : Bool) (claim : Option Blob) (k : Contact) :
    (matchedContact p gap claim k).id = k.id := by
  unfold matchedContact
  split
  · rfl
  · dsimp only
    split_ifs <;> rfl

/-- What matching leaves alone in each contact it leaves alone in the list. -/
theorem map_zipWith_matched {α : Type} (f : Contact → α) {p : SurfaceParams} {gap : Bool}
    (hf : ∀ claim k, f (matchedContact p gap claim k) = f k) {claims : List (Option Blob)} {old : List Contact}
    (hlength : claims.length = old.length) :
    (List.zipWith (matchedContact p gap) claims old).map f = old.map f := by
  rw [List.map_zipWith]
  simp only [hf]
  induction old generalizing claims with
  | nil => simp
  | cons k ks ih =>
    obtain ⟨c, cs, rfl⟩ := List.exists_cons_of_length_eq_add_one hlength
    simp [ih (by simpa using hlength)]

/-! ### Creation (R51 to R54) -/

theorem newContact_eq (p : SurfaceParams) (zones : ZoneTable) (time : Time) (slot id : Nat) (number : BitVec 32)
    (b : Blob) : newContact p zones time slot id number b = createdContact p zones time slot id number b := rfl

theorem freeSlot_eq (sf : Surface) (table : List Contact) :
    freeSlot (Config.tableSlots sf) table = (freeSlots sf table).head? := by
  rw [freeSlot, freeSlots, List.head?_filter]
  refine congrArg (List.find? · _) (funext fun i => ?_)
  induction table with
  | nil => rfl
  | cons k ks ih => simp_all [bne]

theorem freeSlots_perm_slots (sf : Surface) {l m : List Contact} (h : (l.map (·.slot)).Perm (m.map (·.slot))) :
    freeSlots sf l = freeSlots sf m := by
  refine List.filter_congr fun i _ => ?_
  have hall (l : List Contact) : (l.all fun k => k.slot != i) = (l.map (·.slot)).all (· != i) := by
    simp [List.all_map, Function.comp_def]
  rw [hall, hall]
  exact h.all_eq

/-- A contact that takes the lowest free slot leaves the others free. -/
theorem freeSlots_append (sf : Surface) {table : List Contact} {k : Contact} {slots : List Nat}
    (h : freeSlots sf table = k.slot :: slots) : freeSlots sf (table ++ [k]) = slots := by
  have hfilter : freeSlots sf (table ++ [k]) = (freeSlots sf table).filter fun i => k.slot != i := by
    simp only [freeSlots, List.filter_filter, List.all_append, List.all_cons, List.all_nil, Bool.and_true]
    exact List.filter_congr fun i _ => Bool.and_comm _ _
  have hnodup : (k.slot :: slots).Nodup := h ▸ (List.nodup_range).filter _
  obtain ⟨hnot, -⟩ := List.nodup_cons.mp hnodup
  rw [hfilter, h, List.filter_cons_of_neg (by simp)]
  exact List.filter_eq_self.mpr fun i hi => by
    simpa using fun heq : k.slot = i => hnot (heq ▸ hi)

/-- The contacts that blobs create in order, on the slots given. -/
def madeFrom (p : SurfaceParams) (zones : ZoneTable) (time : Time) (held others : List Nat) :
    Nat → BitVec 32 → List Nat → List Blob → List Contact
  | pointer, number, slot :: slots, b :: bs =>
    let id := allocateId pointer (held ++ others)
    createdContact p zones time slot id number b ::
      madeFrom p zones time (held ++ [id]) others (nextId id) (number + 1) slots bs
  | _, _, _, _ => []

theorem pointerAfter_cons (pointer : Nat) (k : Contact) (l : List Contact) :
    pointerAfter pointer (k :: l) = pointerAfter (nextId k.id) l := by
  cases l with
  | nil => rfl
  | cons a l => simp [pointerAfter, List.getLast?_cons]

section
variable (p : SurfaceParams) (zones : ZoneTable) (time : Time) (others : List Nat)

theorem length_madeFrom (held : List Nat) (pointer : Nat) (number : BitVec 32) (slots : List Nat) (bs : List Blob) :
    (madeFrom p zones time held others pointer number slots bs).length = min slots.length bs.length := by
  induction bs generalizing held pointer number slots with
  | nil => cases slots <;> simp [madeFrom]
  | cons b bs ih =>
    cases slots with
    | nil => simp [madeFrom]
    | cons slot slots => simp [madeFrom, ih]

/-- Each contact made in turn, by those made before it. -/
theorem getElem?_madeFrom (held : List Nat) (pointer : Nat) (number : BitVec 32) (slots : List Nat) (bs : List Blob)
    (j slot : Nat) (b : Blob) (hslot : slots[j]? = some slot) (hblob : bs[j]? = some b) :
    let made := madeFrom p zones time held others pointer number slots bs
    made[j]? = some (createdContact p zones time slot
      (allocateId (pointerAfter pointer (made.take j)) (held ++ (made.take j).map (·.id) ++ others))
      (number + BitVec.ofNat 32 j) b) := by
  induction bs generalizing held pointer number slots j with
  | nil => simp at hblob
  | cons x bs ih =>
    cases slots with
    | nil => simp at hslot
    | cons first slots =>
      cases j with
      | zero =>
        obtain rfl : x = b := by simpa using hblob
        obtain rfl : first = slot := by simpa using hslot
        simp [madeFrom, pointerAfter]
      | succ j =>
        have hnumber : number + 1 + BitVec.ofNat 32 j = number + BitVec.ofNat 32 (j + 1) := by
          rw [BitVec.add_assoc]
          congr 1
          apply BitVec.eq_of_toNat_eq
          simp [Nat.add_comm]
        have htail := ih (held ++ [allocateId pointer (held ++ others)]) (nextId (allocateId pointer (held ++ others)))
          (number + 1) slots j (by simpa using hslot) (by simpa using hblob)
        simp only [madeFrom, List.getElem?_cons_succ, List.take_succ_cons, List.map_cons, pointerAfter_cons]
        rw [hnumber] at htail
        simpa [createdContact] using htail

/-- Creation from the blobs left: the contacts made, the id pointer, the creation counter, the blobs refused. -/
theorem foldl_createOne (sf : Surface) (c : Creation) (bs : List Blob) :
    bs.foldl (createOne sf p zones time others) c =
      (let made := madeFrom p zones time (c.table.map (·.id)) others c.pointer c.created (freeSlots sf c.table) bs
       { table := c.table ++ made
         pointer := pointerAfter c.pointer made
         created := c.created + BitVec.ofNat 32 made.length
         refused := c.refused + (bs.length - made.length) }) := by
  induction bs generalizing c with
  | nil => cases hslots : freeSlots sf c.table <;> simp [madeFrom, pointerAfter]
  | cons b bs ih =>
    rw [List.foldl_cons, ih, createOne, freeSlot_eq]
    cases hslots : freeSlots sf c.table with
    | nil =>
      simp [hslots, madeFrom, pointerAfter]
      omega
    | cons slot slots =>
      have hrest := freeSlots_append sf (table := c.table) (k := createdContact p zones time slot
        (allocateId c.pointer (c.table.map (·.id) ++ others)) c.created b) hslots
      have hcount (n : Nat) : c.created + 1 + BitVec.ofNat 32 n = c.created + BitVec.ofNat 32 (n + 1) := by
        rw [BitVec.add_assoc]
        congr 1
        apply BitVec.eq_of_toNat_eq
        simp [Nat.add_comm]
      simp only [newContact_eq, List.head?_cons, hrest, madeFrom, List.map_append, List.map_cons, List.map_nil,
        pointerAfter_cons, List.length_cons, hcount, List.append_assoc, List.singleton_append, Nat.add_sub_add_right]
      rfl

end

end Sys2Proof.Machine
end

section
/-! The classification stage on each contact (R55, R68, R69, R83 to R86): what it does, in one of five ways, and
what is counted and handed on of it. -/

namespace Sys2Proof.Machine

/-! ### The work on one contact -/

/-- The five things that classification does to a contact (Table 4-3). -/
inductive Classing (k : Contact) : Contact × Verdict → Prop
  | stays : Classing k (k, .nothing)
  | advances : k.cls = .finger → Classing k (advanceConfirm k, .nothing)
  | rejects (r : Class × Reason) : k.cls = .undecided → r.1 = .palm ∨ r.1 = .ignored →
      Classing k (rejectContact r k, .rejected)
  | confirms : k.cls = .undecided → Classing k (confirmContact k, .confirmed)
  | retracts (r : Reason) : k.cls = .finger → k.retractedMark = false →
      Classing k (retractContact .palm r (advanceConfirm k), .retracted)

/-- A test that decides against a contact makes it a PALM or IGNORED. -/
theorem rejectingClass_of_firstMet {tests : List (Bool × Class × Reason)} {r : Class × Reason}
    (hmet : firstMet tests = some r) (htests : ∀ t ∈ tests, t.2.1 = .palm ∨ t.2.1 = .ignored) :
    r.1 = .palm ∨ r.1 = .ignored :=
  htests _ (firstMet_mem hmet)

theorem afterTests_classing {met : Option (Class × Reason)} {k : Contact} {otherwise : Contact × Verdict}
    (hk : k.cls = .undecided) (hmet : ∀ r, met = some r → r.1 = .palm ∨ r.1 = .ignored)
    (hother : Classing k otherwise) : Classing k (afterTests met k otherwise) := by
  cases met with
  | none => exact hother
  | some r => exact .rejects r hk (hmet r rfl)

theorem decideContact_classing (p : SurfaceParams) {k : Contact} (hk : k.cls = .undecided) :
    Classing k (decideContact p k) := by
  unfold decideContact
  split_ifs
  · exact .rejects _ hk (.inl rfl)
  · exact .confirms hk
  · exact .stays

section
variable (sf : Surface) (b : Bank) (v : FrameView) (others : List Contact)

theorem heldFinger_classing {k : Contact} (hk : k.cls = .finger) : Classing k (heldFinger sf b v others k) := by
  unfold heldFinger
  dsimp only
  split
  next htried =>
    cases retractionTests sf b v others (advanceConfirm k) with
    | none => exact .advances hk
    | some r => exact .retracts r hk htried.2
  next => exact .advances hk

theorem classifyContact_classing (k : Contact) : Classing k (classifyContact sf b v others k) := by
  unfold classifyContact
  split
  case h_1 hcls _ =>
    exact afterTests_classing hcls (fun r hr => rejectingClass_of_firstMet hr (by simp)) (decideContact_classing _ hcls)
  case h_2 hcls _ =>
    exact afterTests_classing hcls (fun r hr => rejectingClass_of_firstMet hr (by simp)) (decideContact_classing _ hcls)
  case h_4 hcls _ =>
    exact afterTests_classing hcls (fun r hr => rejectingClass_of_firstMet hr (by simp)) (.confirms hcls)
  case h_5 hcls _ => exact heldFinger_classing sf b v others hcls
  case h_6 hcls _ => exact .advances hcls
  all_goals exact .stays

end

/-! ### What is seen of it afterwards -/

/-- The greatest displacement after a frame (R55). -/
def displacementOf (k : Contact) : Option Nat :=
  match k.sinceConfirm, k.down with
  | some _, some d =>
    if k.state = .held ∨ k.state = .fresh then some (max (k.maxDisp.getD 0) (ptDist d k.filtered)) else k.maxDisp
  | _, _ => k.maxDisp

/-- A contact with another greatest displacement. -/
def withDisplacement (d : Option Nat) (k : Contact) : Contact := { k with maxDisp := d }

theorem updateDisplacement_eq (k : Contact) : updateDisplacement k = withDisplacement (displacementOf k) k := by
  obtain ⟨_, _, _, _, _, _, _, _, _, since, _, _, _, _, _, down⟩ := k
  cases since with
  | none => rfl
  | some n =>
    cases down with
    | none => rfl
    | some d =>
      simp only [updateDisplacement, displacementOf, withDisplacement]
      split_ifs <;> rfl

theorem ptDist_self (a : Pt) : ptDist a a = 0 := by simp [ptDist_eq, octagonal]

/-- A confirmation stands with the displacement at 0 (R55). -/
theorem displacementOf_confirmed {k : Contact} (hdown : k.down = some k.filtered) (hmax : k.maxDisp = some 0) :
    displacementOf k = some 0 := by
  unfold displacementOf
  rw [hdown, hmax]
  split
  next hd =>
    obtain rfl := Option.some_inj.mp hd
    rw [ptDist_self]
    split_ifs <;> rfl
  next => rfl

/-- A contact after classification, its displacement aside, by whether it was confirmed and retracted. -/
def Marked (confirmed retracted : Bool) (k k' : Contact) : Prop :=
  k' = { k with
    cls := k'.cls, reason := k'.reason, sinceConfirm := k'.sinceConfirm, retractedMark := k'.retractedMark
    down := if confirmed then some k.filtered else k.down
    maxDisp := if confirmed then some 0 else k.maxDisp
    flags := { k.flags with
      confirmed := k.flags.confirmed || confirmed, retracted := k.flags.retracted || retracted } }

theorem classified_of_marked {k k' : Contact} (h : Marked (confirmedNow k k') (retractedNow k k') k k') :
    Classified k (updateDisplacement k') := by
  unfold Marked at h
  have hstate : k'.state = k.state := (congrArg Contact.state h).trans rfl
  have hfiltered : k'.filtered = k.filtered := (congrArg Contact.filtered h).trans rfl
  have hdown : k'.down = if confirmedNow k k' then some k.filtered else k.down := (congrArg Contact.down h).trans rfl
  have hmax : k'.maxDisp = if confirmedNow k k' then some 0 else k.maxDisp := (congrArg Contact.maxDisp h).trans rfl
  have hdisp : displacementOf k' = if confirmedNow k k' then some 0 else
      displacementOf { k with sinceConfirm := k'.sinceConfirm } := by
    cases hc : confirmedNow k k' with
    | true => exact displacementOf_confirmed (by rw [hdown, hfiltered, hc]; rfl) (by rw [hmax, hc]; rfl)
    | false =>
      unfold displacementOf
      rw [hdown, hmax, hstate, hfiltered, hc]
      rfl
  rw [updateDisplacement_eq, hdisp]
  exact (congrArg (withDisplacement _) h).trans rfl

/-- A verdict and what the contact shows before and after agree. -/
structure Shown (k : Contact) (q : Contact × Verdict) : Prop where
  marked : Marked (confirmedNow k q.1) (retractedNow k q.1) k q.1
  confirmed : confirmedNow k q.1 = (q.2 == .confirmed)
  rejected : rejectedNow k q.1 = (q.2 == .rejected)
  retracted : retractedNow k q.1 = (q.2 == .retracted)

theorem shown_of {k : Contact} {q : Contact × Verdict} (hconfirmed : confirmedNow k q.1 = (q.2 == .confirmed))
    (hrejected : rejectedNow k q.1 = (q.2 == .rejected)) (hretracted : retractedNow k q.1 = (q.2 == .retracted))
    (hmarked : Marked (q.2 == .confirmed) (q.2 == .retracted) k q.1) : Shown k q :=
  ⟨by rwa [hconfirmed, hretracted], hconfirmed, hrejected, hretracted⟩

theorem confirmedNow_of_cls {k k' : Contact} (hk : k'.cls = k.cls) : confirmedNow k k' = false := by
  rw [confirmedNow, hk]
  cases k.cls <;> rfl

theorem rejectedNow_of_cls {k k' : Contact} (hk : k'.cls = k.cls) : rejectedNow k k' = false := by
  rw [rejectedNow, hk]
  cases k.cls <;> rfl

theorem retractedNow_of_mark {k k' : Contact} (hk : k'.retractedMark = k.retractedMark) : retractedNow k k' = false := by
  rw [retractedNow, hk]
  cases k.retractedMark <;> rfl

theorem marked_false {k k' : Contact} (h : k' = { k with
    cls := k'.cls, reason := k'.reason, sinceConfirm := k'.sinceConfirm, retractedMark := k'.retractedMark }) :
    Marked false false k k' := by
  rw [Marked]
  simpa using h

theorem shown_of_classing {k : Contact} {q : Contact × Verdict} (h : Classing k q) : Shown k q := by
  cases h with
  | stays =>
    exact shown_of (confirmedNow_of_cls rfl) (rejectedNow_of_cls rfl) (retractedNow_of_mark rfl) (marked_false rfl)
  | advances hk =>
    exact shown_of (confirmedNow_of_cls rfl) (rejectedNow_of_cls rfl) (retractedNow_of_mark rfl) (marked_false rfl)
  | rejects r hk hr =>
    refine shown_of ?_ ?_ (retractedNow_of_mark rfl) (marked_false rfl)
    · obtain hr | hr := hr <;> simp only [confirmedNow, rejectContact, hk, hr] <;> rfl
    · obtain hr | hr := hr <;> simp only [rejectedNow, rejectContact, hk, hr] <;> rfl
  | confirms hk =>
    refine shown_of ?_ ?_ (retractedNow_of_mark rfl) (by simp [Marked, confirmContact])
    · simp only [confirmedNow, hk]; rfl
    · simp only [rejectedNow, hk]; rfl
  | retracts r hk hmark =>
    refine shown_of ?_ ?_ ?_ (by simp [Marked, retractContact, advanceConfirm])
    · simp only [confirmedNow, hk]; rfl
    · simp only [rejectedNow, hk]; rfl
    · simp only [retractedNow, hmark]; rfl

/-- A contact that fingers off retract (R86). -/
theorem shown_of_suspended {k : Contact} (h : endingRetracts k = true) :
    Shown k (retractContact .ignored .suspended k, .retracted) := by
  obtain ⟨hcls, hmark⟩ : k.cls = .finger ∧ k.retractedMark = false := by simpa [endingRetracts] using h
  refine shown_of ?_ ?_ ?_ (by simp [Marked, retractContact])
  · simp only [confirmedNow, hcls]; rfl
  · simp only [rejectedNow, hcls]; rfl
  · simp only [retractedNow, hmark]; rfl

end Sys2Proof.Machine
end

section
/-! The classification stage of a frame: the contacts it leaves, the ids it hands on and what it counts, by the
contacts before and after it (R71, R86, R91). -/

namespace Sys2Proof.Machine

/-! ### Both passes over a contact -/

theorem suspendContact_of_off {v : FrameView} {k : Contact} (hoff : v.enable = false) (hk : endingRetracts k = true) :
    suspendContact v k = (retractContact .ignored .suspended k, .retracted) :=
  if_pos (by rw [hoff, hk]; rfl)

theorem suspendContact_of_not {v : FrameView} {k : Contact} (h : v.enable = true ∨ endingRetracts k = false) :
    suspendContact v k = (k, .nothing) :=
  if_neg (by obtain h | h := h <;> simp [h])

/-- A contact that fingers off have retracted is left alone by the rest of the stage. -/
theorem classing_of_suspended {k : Contact} {q : Contact × Verdict}
    (h : Classing (retractContact .ignored .suspended k) q) : q = (retractContact .ignored .suspended k, .nothing) := by
  cases h with
  | stays => rfl
  | advances hk => exact nomatch hk
  | rejects r hk => exact nomatch hk
  | confirms hk => exact nomatch hk
  | retracts r hk => exact nomatch hk

/-- What the stage has done to a contact: `q` is what its second pass leaves. -/
structure Staged (v : FrameView) (k : Contact) (q : Contact × Verdict) : Prop where
  classified : Classified k (updateDisplacement q.1)
  confirmed : confirmedNow k (updateDisplacement q.1) = (q.2 == .confirmed)
  rejected : rejectedNow k (updateDisplacement q.1) = (q.2 == .rejected)
  retracted : retractedNow k (updateDisplacement q.1) =
    if v.enable then q.2 == .retracted else (suspendContact v k).2 == .retracted
  quiet : (if v.enable then (suspendContact v k).2 else q.2) ≠ .retracted

theorem confirmedNow_updateDisplacement (k k' : Contact) :
    confirmedNow k (updateDisplacement k') = confirmedNow k k' := by rw [updateDisplacement_eq]; rfl

theorem rejectedNow_updateDisplacement (k k' : Contact) :
    rejectedNow k (updateDisplacement k') = rejectedNow k k' := by rw [updateDisplacement_eq]; rfl

theorem retractedNow_updateDisplacement (k k' : Contact) :
    retractedNow k (updateDisplacement k') = retractedNow k k' := by rw [updateDisplacement_eq]; rfl

theorem staged_of_shown {v : FrameView} {k : Contact} {q r : Contact × Verdict} (h : Shown k r) (hfst : r.1 = q.1)
    (hconfirmed : (r.2 == .confirmed) = (q.2 == .confirmed)) (hrejected : (r.2 == .rejected) = (q.2 == .rejected))
    (hretracted : (r.2 == .retracted) = if v.enable then q.2 == .retracted else (suspendContact v k).2 == .retracted)
    (hquiet : (if v.enable then (suspendContact v k).2 else q.2) ≠ .retracted) : Staged v k q := by
  refine ⟨classified_of_marked (by rw [← hfst]; exact h.marked), ?_, ?_, ?_, hquiet⟩
  · rw [confirmedNow_updateDisplacement, ← hconfirmed, ← hfst, h.confirmed]
  · rw [rejectedNow_updateDisplacement, ← hrejected, ← hfst, h.rejected]
  · rw [retractedNow_updateDisplacement, ← hretracted, ← hfst, h.retracted]

/-- With fingers off the tests retract nothing more: each FINGER contact left has its marker. -/
theorem classing_not_retracted {k : Contact} {q : Contact × Verdict} (h : Classing k q)
    (hk : endingRetracts k = false) : q.2 ≠ .retracted := by
  cases h with
  | retracts r hcls hmark => simp [endingRetracts, hcls, hmark] at hk
  | _ => exact nofun

theorem staged_of_classing {v : FrameView} {k : Contact} {q : Contact × Verdict}
    (h : Classing (suspendContact v k).1 q) : Staged v k q := by
  cases hv : v.enable with
  | true =>
    rw [suspendContact_of_not (.inl hv)] at h
    refine staged_of_shown (shown_of_classing h) rfl rfl rfl (by rw [hv]; rfl) ?_
    rw [hv, suspendContact_of_not (.inl hv)]
    exact nofun
  | false =>
    cases hk : endingRetracts k with
    | true =>
      rw [suspendContact_of_off hv hk] at h
      obtain rfl := classing_of_suspended h
      refine staged_of_shown (shown_of_suspended hk) rfl rfl rfl ?_ (by rw [hv]; exact nofun)
      rw [hv, suspendContact_of_off hv hk]
      rfl
    | false =>
      rw [suspendContact_of_not (.inr hk)] at h
      have hquiet := classing_not_retracted h hk
      refine staged_of_shown (shown_of_classing h) rfl rfl rfl ?_ (by rw [hv]; exact hquiet)
      rw [hv, suspendContact_of_not (.inr hk)]
      simpa using hquiet

/-! ### The contacts in turn (R71) -/

section
variable (sf : Surface) (b : Bank) (v : FrameView)

/-- The second pass of the stage over a table. -/
def secondPass (mid : List Contact) : List (Contact × Verdict) :=
  classifyFrom sf b v [] (mid.map fun k => (suspendContact v k).1)

theorem classifyFrom_classing (done l : List Contact) :
    List.Forall₂ (fun k q => Classing k q) l (classifyFrom sf b v done l) := by
  induction l generalizing done with
  | nil => exact .nil
  | cons k l ih => exact .cons (classifyContact_classing sf b v _ k) (ih _)

theorem secondPass_staged (mid : List Contact) : List.Forall₂ (Staged v) mid (secondPass sf b v mid) :=
  (List.forall₂_map_left_iff.mp (classifyFrom_classing sf b v [] (mid.map fun k => (suspendContact v k).1))).imp
    fun _ _ => staged_of_classing

theorem classifyTable_table (mid : List Contact) :
    (classifyTable sf b v mid).table.map updateDisplacement =
      (secondPass sf b v mid).map fun q => updateDisplacement q.1 := by
  rw [classifyTable, secondPass, List.map_map, List.map_map]
  rfl

end

/-! ### The ids handed on -/

section
variable {v : FrameView} {mid : List Contact} {second : List (Contact × Verdict)}

theorem updateDisplacement_id (k : Contact) : (updateDisplacement k).id = k.id := by rw [updateDisplacement_eq]; rfl

theorem classified_id {k k' : Contact} (h : Classified k k') : k'.id = k.id := by
  rw [h]

theorem suspendContact_id (v : FrameView) (k : Contact) : (suspendContact v k).1.id = k.id := by
  unfold suspendContact
  split <;> rfl

/-- A change seen exactly on the contacts of one verdict. -/
theorem happened_of_verdict {test : Contact → Contact → Bool} {w : Verdict}
    (h : List.Forall₂ (fun k q => test k (updateDisplacement q.1) = (q.2 == w)) mid second) :
    (happened test mid (second.map fun q => updateDisplacement q.1)).map (·.id) = idsWith w second := by
  induction h with
  | nil => rfl
  | @cons k q mid second hhead htail ih =>
    simp only [happened, idsWith, List.map_cons, List.zip_cons_cons, List.filter_cons, hhead] at ih ⊢
    split
    · simp only [List.map_cons, ih, updateDisplacement_id]
    · exact ih

/-- A change seen exactly on the contacts that fingers off retract. -/
theorem happened_of_suspended {test : Contact → Contact → Bool}
    (h : List.Forall₂ (fun k q => test k (updateDisplacement q.1) = ((suspendContact v k).2 == .retracted) ∧
      (updateDisplacement q.1).id = k.id) mid second) :
    (happened test mid (second.map fun q => updateDisplacement q.1)).map (·.id) =
      idsWith .retracted (mid.map (suspendContact v)) := by
  induction h with
  | nil => rfl
  | @cons k q mid second hhead htail ih =>
    obtain ⟨htest, hid⟩ := hhead
    simp only [happened, idsWith, List.map_cons, List.zip_cons_cons, List.filter_cons, htest] at ih ⊢
    split
    · simp only [List.map_cons, ih, hid, suspendContact_id]
    · exact ih

theorem idsWith_eq_nil {w : Verdict} {l : List (Contact × Verdict)} (h : ∀ q ∈ l, q.2 ≠ w) : idsWith w l = [] := by
  rw [idsWith, List.filter_eq_nil_iff.mpr fun q hq => by simpa using h q hq]
  rfl

theorem secondPass_quiet (h : List.Forall₂ (Staged v) mid second) (hv : v.enable = false) :
    ∀ q ∈ second, q.2 ≠ .retracted := by
  induction h with
  | nil => exact fun q hq => nomatch hq
  | cons hhead _ ih =>
    have hquiet := hhead.quiet
    rw [hv] at hquiet
    exact List.forall_mem_cons.mpr ⟨hquiet, ih⟩

theorem happened_retracted (h : List.Forall₂ (Staged v) mid second) :
    (happened retractedNow mid (second.map fun q => updateDisplacement q.1)).map (·.id) =
      idsWith .retracted (mid.map (suspendContact v)) ++ idsWith .retracted second := by
  cases hv : v.enable with
  | true =>
    have hfirst : idsWith .retracted (mid.map (suspendContact v)) = [] := by
      refine idsWith_eq_nil (List.forall_mem_map.mpr fun k _ => ?_)
      rw [suspendContact_of_not (.inl hv)]
      exact nofun
    rw [hfirst, List.nil_append]
    refine happened_of_verdict (h.imp fun k q hstaged => ?_)
    rw [hstaged.retracted, hv]
    rfl
  | false =>
    rw [idsWith_eq_nil (secondPass_quiet h hv), List.append_nil]
    refine happened_of_suspended (h.imp fun k q hstaged => ⟨?_, classified_id hstaged.classified⟩)
    rw [hstaged.retracted, hv]
    rfl

end

section
variable (sf : Surface) (b : Bank) (v : FrameView) (mid : List Contact)

/-- What the stage hands on and counts is what has happened to the contacts. -/
theorem classifyTable_happened :
    let r := classifyTable sf b v mid
    let fin := r.table.map updateDisplacement
    List.Forall₂ Classified mid fin ∧ r.confirmed = (happened confirmedNow mid fin).map (·.id) ∧
      r.retracted = (happened retractedNow mid fin).map (·.id) ∧ r.rejected = (happened rejectedNow mid fin).length := by
  have hstaged := secondPass_staged sf b v mid
  have hfirst : ((mid.map (suspendContact v)).map (·.1)) = mid.map fun k => (suspendContact v k).1 := List.map_map ..
  simp only [classifyTable_table]
  refine ⟨?_, ?_, ?_, ?_⟩
  · exact List.forall₂_map_right_iff.mpr (hstaged.imp fun _ _ h => h.classified)
  · rw [happened_of_verdict (hstaged.imp fun _ _ h => h.confirmed), secondPass, ← hfirst]
    rfl
  · rw [happened_retracted hstaged, secondPass, ← hfirst]
    rfl
  · rw [← List.length_map (f := fun k : Contact => k.id), happened_of_verdict (hstaged.imp fun _ _ h => h.rejected),
      secondPass, ← hfirst]
    rfl

end

end Sys2Proof.Machine
end

section
/-! A tracked frame (R46 to R58, R111): its contacts after matching and creation, its handover, and the state it
leaves. -/

namespace Sys2Proof.Machine

theorem byCreation_older (c : BitVec 32) (l : List Contact) : (byCreation c l).Pairwise (Older c) := by
  unfold Older
  have older_total : Std.Total (fun a b : Contact => (c - b.number).toNat < (c - a.number).toNat ∨
      ((c - a.number).toNat = (c - b.number).toNat ∧ a.slot ≤ b.slot)) := ⟨fun a b => by omega⟩
  have older_trans : IsTrans Contact (fun a b : Contact => (c - b.number).toNat < (c - a.number).toNat ∨
      ((c - a.number).toNat = (c - b.number).toNat ∧ a.slot ≤ b.slot)) := ⟨fun a b d => by omega⟩
  exact List.pairwise_insertionSort _ l

section
variable (sf : Surface) (st : FrameStart) (f : Frame) (u : SurfaceUnit)

/-! ### Its contacts -/

/-- The blobs of a tracked frame. -/
def trackedBlobs : List Blob := (extractOn sf (sectionOf sf st.snap.values) f.cells).1

/-- The contacts of the table in creation order. -/
def trackedOld : List Contact := byCreation u.created u.table

/-- Their claims. -/
def trackedClaims : List (Option Blob) :=
  claimsFrom (sectionOf sf st.snap.values) f.gap (trackedOld u) (trackedBlobs sf st f)

/-- The blobs that no contact has claimed. -/
def trackedLeft : List Blob := unclaimed (trackedBlobs sf st f) (trackedClaims sf st f u)

/-- The contacts that they create. -/
def trackedMade : List Contact :=
  madeFrom (sectionOf sf st.snap.values) u.zones f.time ((trackedOld u).map (·.id))
    (u.closing.map (·.id) ++ pendingIds u.publisher) u.idPointer u.created (freeSlots sf u.table)
    (trackedLeft sf st f u)

/-- The contacts of the table after matching. -/
def trackedMatched : List Contact :=
  List.zipWith (matchedContact (sectionOf sf st.snap.values) f.gap) (trackedClaims sf st f u) (trackedOld u)

theorem trackedClaims_inTurn : ClaimsInTurn (sectionOf sf st.snap.values) f.gap (trackedBlobs sf st f) (trackedOld u)
    (trackedClaims sf st f u) :=
  claimsFrom_inTurn ..

theorem trackedMatched_ids : (trackedMatched sf st f u).map (·.id) = (trackedOld u).map (·.id) :=
  map_zipWith_matched _ (matchedContact_id _ _) (trackedClaims_inTurn sf st f u).1

theorem trackedMatched_freeSlots : freeSlots sf (trackedMatched sf st f u) = freeSlots sf u.table := by
  refine freeSlots_perm_slots sf ?_
  rw [trackedMatched, map_zipWith_matched _ (matchedContact_slot _ _) (trackedClaims_inTurn sf st f u).1]
  exact (byCreation_perm _ _).map _

/-- Matching and creation, in the contacts they leave. -/
theorem trackedCreation_parts : trackedCreation sf st f u =
    { table := trackedMatched sf st f u ++ trackedMade sf st f u
      pointer := pointerAfter u.idPointer (trackedMade sf st f u)
      created := u.created + BitVec.ofNat 32 (trackedMade sf st f u).length
      refused := (trackedLeft sf st f u).length - (trackedMade sf st f u).length } := by
  have hmatch := matchContacts_stilled (sectionOf sf st.snap.values) f.gap (trackedOld u) (trackedBlobs sf st f)
  have hmatched : matchContacts (sectionOf sf st.snap.values) f.gap ((trackedOld u).map (stilled f.gap))
      (trackedBlobs sf st f) = (trackedMatched sf st f u, trackedLeft sf st f u) := hmatch
  rw [trackedCreation, trackTable, stilled_table, byCreation_stilled]
  refine (congrArg (fun m : List Contact × List Blob => m.2.foldl _ (Creation.mk m.1 _ _ _)) hmatched).trans ?_
  rw [foldl_createOne]
  simp only [trackedMatched_ids, trackedMatched_freeSlots, Nat.zero_add]
  rfl

theorem trackedMade_inTurn : MadeInTurn sf (sectionOf sf st.snap.values) u f.time (trackedOld u) (trackedLeft sf st f u)
    (trackedMade sf st f u) := by
  refine ⟨length_madeFrom .., fun j slot b hslot hblob => ?_⟩
  rw [List.map_append]
  exact getElem?_madeFrom _ _ _ _ _ _ _ _ _ j slot b hslot hblob

/-- The contacts of a tracked frame before classification. -/
def trackedMid : List Contact :=
  byCreation (u.created + BitVec.ofNat 32 (trackedMade sf st f u).length)
    (trackedMatched sf st f u ++ trackedMade sf st f u)

theorem trackedClasses_eq : trackedClasses sf st f u = classifyTable sf st.snap.values st.view (trackedMid sf st f u) := by
  simp only [trackedClasses, trackedCreation_parts]
  rfl

/-- The contacts of a tracked frame after classification, and what is handed on and counted of it. -/
theorem trackedTable_classified :
    let mid := trackedMid sf st f u
    let fin := trackedTable sf st f u
    List.Forall₂ Classified mid fin ∧
      (trackedClasses sf st f u).confirmed = (happened confirmedNow mid fin).map (·.id) ∧
      (trackedClasses sf st f u).retracted = (happened retractedNow mid fin).map (·.id) ∧
      (trackedClasses sf st f u).rejected = (happened rejectedNow mid fin).length := by
  have h := classifyTable_happened sf st.snap.values st.view (trackedMid sf st f u)
  rw [← trackedClasses_eq] at h
  exact h

/-! ### Its handover -/

theorem entryOf_limitClosing (p : MapParams) (k : Contact) :
    entryOf (limitClosing p k) = limitedHandedEntry (outRangeX p) (outRangeY p) k := rfl

theorem trackedHandover_spec (s : State) : TrackedHandover sf s f st
    ((surfaceOf s sf).created + BitVec.ofNat 32 (trackedMade sf st f (surfaceOf s sf)).length)
    (decide (0 < (trackedLeft sf st f (surfaceOf s sf)).length - (trackedMade sf st f (surfaceOf s sf)).length))
    (trackedTable sf st f (surfaceOf s sf)) (trackedHandover sf st f (surfaceOf s sf)) := by
  simp only [trackedHandover, trackedCreation_parts]
  refine ⟨?_, ?_, rfl, rfl, rfl, rfl, rfl, rfl, rfl⟩
  · refine ((byCreation_perm _ _).map _).trans ?_
    rw [List.map_append, List.map_map]
    exact .refl _
  · exact List.pairwise_map.2 (byCreation_sorted _ _)

/-! ### Its counters -/

theorem trackedUnit_counters :
    let mid := trackedMid sf st f u
    let fin := trackedTable sf st f u
    let refused := (trackedLeft sf st f u).length - (trackedMade sf st f u).length
    (trackedUnit sf st f u).counters = { u.counters with
      blobsDropped := min (u.counters.blobsDropped + (extractOn sf (sectionOf sf st.snap.values) f.cells).2) 65535
      tableFull := min (u.counters.tableFull + refused) 65535
      confirmed := min (u.counters.confirmed + (happened confirmedNow mid fin).length) 65535
      rejected := min (u.counters.rejected + (happened rejectedNow mid fin).length) 65535
      retractions := min (u.counters.retractions + (happened retractedNow mid fin).length) 65535 } := by
  obtain ⟨-, hconfirmed, hretracted, hrejected⟩ := trackedTable_classified sf st f u
  have hcount {l : List Nat} {m : List Contact} (h : l = m.map (·.id)) : l.length = m.length := by
    rw [h, List.length_map]
  simp only [← hcount hconfirmed, ← hcount hretracted, ← hrejected]
  simp only [trackedUnit, trackedCreation_parts]
  rfl

end

/-! ### The state it leaves -/

section
variable {sf : Surface} {s : State} {f : Frame} {st : FrameStart}

/-- The unit of a surface whose frame ends with a handover. -/
def endedUnit (sf : Surface) (s : State) (h : Handover) (v : SurfaceUnit) : SurfaceUnit :=
  nextFrame (releaseEnded { v with
    publisher := runFrames sf (isFenced s.regs.fenced (frameStream sf)) s.clock v.created (v.publisher.handed ++ [h])
      v.publisher })

theorem screenFrame_ends (s : State) (h : Handover) (v : SurfaceUnit) :
    drainEvents (updateSurface (updateSurface (handFrame (withSurface s .screen v) .screen h) .screen releaseEnded)
        .screen nextFrame) =
      { withSurface s .screen (endedUnit .screen s h v) with events := (drainEvents s).events } := rfl

theorem padFrame_ends (s : State) (h : Handover) (v : SurfaceUnit) (g : GestureEngine × List Event) :
    drainEvents (updateSurface (updateSurface (handFrame (handEvents { withSurface s .pad v with gestures := g.1 } g.2)
        .pad h) .pad releaseEnded) .pad nextFrame) =
      { withSurface s .pad (endedUnit .pad s h v) with
        gestures := g.1, events := (drainEvents (handEvents s g.2)).events } := rfl

/-- The Gesture Engine's work on a tracked pad frame. -/
def trackedGestures (st : FrameStart) (f : Frame) (s : State) : GestureEngine × List Event :=
  gestureFrame (engineInput f st (trackedMid .pad st f (surfaceOf s .pad)) (trackedTable .pad st f (surfaceOf s .pad)))
    s.clock s.gestures

theorem endFrame_of_track (hwork : st.work = .track) :
    endFrame sf st f s = drainEvents (updateSurface (trackFrame sf st f s) sf nextFrame) := by
  simp only [endFrame, processFrame, hwork]

theorem endFrame_screen_of_track (hwork : st.work = .track) : endFrame .screen st f s =
    { withSurface s .screen (endedUnit .screen s (trackedHandover .screen st f (surfaceOf s .screen))
        (trackedUnit .screen st f (surfaceOf s .screen))) with events := (drainEvents s).events } := by
  rw [endFrame_of_track hwork, trackFrame_eq]
  exact screenFrame_ends s _ _

theorem padGestures_eq (st : FrameStart) (f : Frame) (s : State) (v : SurfaceUnit) :
    padGestures .pad st f (trackedClasses .pad st f (surfaceOf s .pad)) (trackedTable .pad st f (surfaceOf s .pad))
        (withSurface s .pad v) =
      handEvents { withSurface s .pad v with gestures := (trackedGestures st f s).1 } (trackedGestures st f s).2 := by
  obtain ⟨-, hconfirmed, hretracted, -⟩ := trackedTable_classified .pad st f (surfaceOf s .pad)
  simp only [padGestures, trackedGestures, engineInput, hconfirmed, hretracted]
  rfl

theorem endFrame_pad_of_track (hwork : st.work = .track) : endFrame .pad st f s =
    { withSurface s .pad (endedUnit .pad s (trackedHandover .pad st f (surfaceOf s .pad))
        (trackedUnit .pad st f (surfaceOf s .pad))) with
      gestures := (trackedGestures st f s).1
      events := (drainEvents (handEvents s (trackedGestures st f s).2)).events } := by
  rw [endFrame_of_track hwork, trackFrame_eq, padGestures_eq]
  exact padFrame_ends s _ _ _

/-- The unit that O33 states. -/
theorem endedUnit_tracked (hhanded : (surfaceOf s sf).publisher.handed = []) :
    let u := surfaceOf s sf
    let made := trackedMade sf st f u
    let mid := trackedMid sf st f u
    let fin := trackedTable sf st f u
    let refused := (trackedLeft sf st f u).length - made.length
    endedUnit sf s (trackedHandover sf st f u) (trackedUnit sf st f u) = { u with
      processing := u.waiting.map fun w => { frame := w, start := none }
      waiting := none
      table := (fin.filter fun k => k.state != .ended).map fun k => { k with flags := noContactFlags }
      closing := []
      idPointer := pointerAfter u.idPointer made
      created := u.created + BitVec.ofNat 32 made.length
      counters := { u.counters with
        blobsDropped := min (u.counters.blobsDropped + (extractOn sf (sectionOf sf st.snap.values) f.cells).2) 65535
        tableFull := min (u.counters.tableFull + refused) 65535
        confirmed := min (u.counters.confirmed + (happened confirmedNow mid fin).length) 65535
        rejected := min (u.counters.rejected + (happened rejectedNow mid fin).length) 65535
        retractions := min (u.counters.retractions + (happened retractedNow mid fin).length) 65535 }
      publisher := runFrames sf (isFenced s.regs.fenced (frameStream sf)) s.clock
        (u.created + BitVec.ofNat 32 made.length) [trackedHandover sf st f u] u.publisher } := by
  intro u made mid fin refused
  have hcounters := trackedUnit_counters sf st f u
  have hcreated : (trackedUnit sf st f u).created = u.created + BitVec.ofNat 32 made.length :=
    congrArg Creation.created (trackedCreation_parts sf st f u)
  have hpointer : (trackedUnit sf st f u).idPointer = pointerAfter u.idPointer made :=
    congrArg Creation.pointer (trackedCreation_parts sf st f u)
  have hpublisher : (trackedUnit sf st f u).publisher.handed ++ [trackedHandover sf st f u] =
      [trackedHandover sf st f u] := by
    rw [show (trackedUnit sf st f u).publisher.handed = [] from hhanded, List.nil_append]
  rw [endedUnit, hpublisher, hcreated, nextFrame, releaseEnded]
  dsimp only
  rw [hcounters, hpointer]
  rfl

/-- A state that differs from another in one surface's unit, the gesture state and the events. -/
theorem surface_and_rest {t : State} {v : SurfaceUnit} {g : GestureEngine} {e : EventPublisher}
    (h : t = { withSurface s sf v with gestures := g, events := e }) : surfaceOf t sf = v ∧
      t = { withSurface s sf (surfaceOf t sf) with gestures := t.gestures, events := t.events } := by
  subst h
  cases sf <;> exact ⟨rfl, rfl⟩

theorem endFrame_surface_and_rest (hwork : st.work = .track) :
    surfaceOf (endFrame sf st f s) sf =
        endedUnit sf s (trackedHandover sf st f (surfaceOf s sf)) (trackedUnit sf st f (surfaceOf s sf)) ∧
      endFrame sf st f s = { withSurface s sf (surfaceOf (endFrame sf st f s) sf) with
        gestures := (endFrame sf st f s).gestures, events := (endFrame sf st f s).events } := by
  cases sf with
  | pad => exact surface_and_rest (endFrame_pad_of_track hwork)
  | screen => exact surface_and_rest ((endFrame_screen_of_track hwork).trans rfl)

/-- A tracked frame's end is what O33 states. -/
theorem endFrame_trackedFrame (hwork : st.work = .track) (hhanded : (surfaceOf s sf).publisher.handed = []) :
    TrackedFrame sf s f st (endFrame sf st f s) (trackedMid sf st f (surfaceOf s sf))
      (trackedTable sf st f (surfaceOf s sf)) := by
  obtain ⟨hclassified, -⟩ := trackedTable_classified sf st f (surfaceOf s sf)
  obtain ⟨hsurface, hrest⟩ := endFrame_surface_and_rest (sf := sf) (s := s) (f := f) hwork
  refine ⟨trackedHandover sf st f (surfaceOf s sf), trackedOld (surfaceOf s sf),
    trackedClaims sf st f (surfaceOf s sf), trackedMade sf st f (surfaceOf s sf), byCreation_perm _ _,
    byCreation_older _ _, trackedClaims_inTurn .., trackedMade_inTurn .., byCreation_perm _ _, byCreation_older _ _,
    hclassified, ⟨trackedHandover_spec sf st f s, ?_⟩, ?_, ?_, hrest⟩
  · exact hsurface.trans (endedUnit_tracked hhanded)
  · rintro rfl
    rw [endFrame_screen_of_track hwork]
    exact ⟨rfl, rfl⟩
  · rintro rfl
    rw [endFrame_pad_of_track hwork]
    rfl

end

/-- Settles O33. The claims, the contacts made and the classification of a frame are the model's own passes over the
table, read off contact by contact. -/
theorem trackedFrameReleasesEnded : Obligations.TrackedFrameReleasesEnded := by
  refine ⟨fun gate p blobs => ?_, fun sf s f st hrun hframe hwork hhanded =>
    ⟨_, _, _, exec_processingEnd hrun hframe (.inr hhanded), endFrame_trackedFrame hwork hhanded⟩⟩
  have hnearest := nearestBlob_nearestOf gate p blobs
  refine ⟨fun b hb => ?_, fun hnone => ?_⟩
  · rwa [hb] at hnearest
  · rwa [hnone] at hnearest

end Sys2Proof.Machine
end

section
/-! How a tracked frame classifies each of its contacts (R68, R71, R74 to R86). -/

namespace Sys2Proof.Machine

/-! ### The tests (R75 to R81) -/

theorem neighbourTest_iff (p : SurfaceParams) (others : List Contact) (k : Contact) :
    neighbourTest p others k = true ↔ NearPalm p others k := by
  simp [neighbourTest, NearPalm, ptDist_eq, and_assoc]

theorem inGuardRegion_iff (q : ScreenParams) (v : FrameView) (at_ : Pt) :
    inGuardRegion q v at_ = true ↔ InGuard q v at_ := by
  unfold inGuardRegion InGuard
  cases v.penPos with
  | none => simp
  | some pen => cases v.hand <;> simp

theorem penGuardTest_iff (sf : Surface) (q : ScreenParams) (v : FrameView) (k : Contact) :
    penGuardTest sf q v k = true ↔ GuardedByPen sf q v k := by
  simp [penGuardTest, GuardedByPen, inGuardRegion_iff, and_assoc]

theorem newActivationTest_iff (sf : Surface) (q : ScreenParams) (v : FrameView) (k : Contact) :
    newActivationTest sf q v k = true ↔ sf = .screen ∧ v.newlySeen = true ∧ InGuard q v k.mapped := by
  simp [newActivationTest, inGuardRegion_iff, and_assoc]

theorem typingTest_iff (sf : Surface) (v : FrameView) (k : Contact) :
    typingTest sf v k = true ↔ sf = .pad ∧ v.typing = true ∧ k.zoneFlags.typingExempt = false := by
  simp [typingTest, and_assoc]

theorem edgeGrowTest_iff (p : SurfaceParams) (k : Contact) : edgeGrowTest p k = true ↔ GrowsAtEdge p k := by
  unfold edgeGrowTest GrowsAtEdge
  cases k.prevArea <;> simp

theorem flatTest_iff (p : SurfaceParams) (k : Contact) : flatTest p k = true ↔ IsFlat p k := by
  simp [flatTest, flatness, IsFlat]

theorem sizeTest_iff (p : SurfaceParams) (k : Contact) : sizeTest p k = true ↔ p.palmArea ≤ k.area := by
  simp [sizeTest]

/-! ### One contact -/

/-- A contact shows the class, reason, since_confirm and retracted marker of another. -/
def Shows (k' r : Contact) : Prop := Becomes k' r.cls r.reason r.sinceConfirm r.retractedMark

theorem tested_of_shows {k k' : Contact} {tests : List (Prop × (Class × Reason))} {l : List (Bool × (Class × Reason))}
    {otherwise : Contact × Verdict} {left : Prop}
    (htests : List.Forall₂ (fun t b => (t.1 ↔ b.1 = true) ∧ t.2 = b.2) tests l)
    (hshows : Shows k' (afterTests (firstMet l) k otherwise).1) (hleft : Shows k' otherwise.1 → left) :
    Tested k k' tests left := by
  refine ⟨firstMet l, firstMet_of_tests htests, fun r hr => ?_, fun hnone => hleft ?_⟩
  · rw [hr] at hshows
    exact hshows
  · rw [hnone] at hshows
    exact hshows

theorem decidedAtWindow_of_shows {p : SurfaceParams} {k k' : Contact} (hk : k.cls = .undecided)
    (h : Shows k' (decideContact p k).1) : DecidedAtWindow p k k' := by
  refine ⟨fun hbelow => ?_, fun hwindow hflat => ?_, fun hwindow hflat => ?_⟩
  · have hcontact : decideContact p k = (k, .nothing) := if_neg (not_le.mpr hbelow)
    rw [hcontact] at h
    rw [← hk]
    exact h
  · have hcontact : decideContact p k = (rejectContact (.palm, .flat) k, .rejected) :=
      (if_pos hwindow).trans (if_pos ((flatTest_iff p k).mpr hflat))
    rw [hcontact] at h
    exact h
  · have hcontact : decideContact p k = (confirmContact k, .confirmed) :=
      (if_pos hwindow).trans (if_neg fun hf => hflat ((flatTest_iff p k).mp hf))
    rw [hcontact] at h
    exact h

section
variable {sf : Surface} {b : Bank} {v : FrameView} {others seen : List Contact} {k k' : Contact}

theorem undecidedMoves_of_shows (hnear : ∀ x, neighbourTest (sectionOf sf b) seen x = true ↔
      NearPalm (sectionOf sf b) others x)
    (hk : k.cls = .undecided) (h : Shows k' (classifyContact sf b v seen k).1) : UndecidedMoves sf b v others k k' := by
  have henable : v.enable = false ↔ (!v.enable) = true := by simp
  have hsize := (sizeTest_iff (sectionOf sf b) k).symm
  have hpalm := (hnear k).symm
  have hguard := (penGuardTest_iff sf b.screenOnly v k).symm
  unfold UndecidedMoves
  cases hstate : k.state with
  | fresh =>
    simp only [classifyContact, hk, hstate] at h
    exact tested_of_shows (.cons ⟨henable, rfl⟩ (.cons ⟨Iff.rfl, rfl⟩ (.cons ⟨hsize, rfl⟩ (.cons ⟨hpalm, rfl⟩
      (.cons ⟨(typingTest_iff sf v k).symm, rfl⟩ (.cons ⟨hguard, rfl⟩ .nil)))))) h (decidedAtWindow_of_shows hk)
  | held =>
    simp only [classifyContact, hk, hstate] at h
    exact tested_of_shows (.cons ⟨henable, rfl⟩ (.cons ⟨hsize, rfl⟩ (.cons ⟨hpalm, rfl⟩ (.cons ⟨hguard, rfl⟩
      (.cons ⟨(edgeGrowTest_iff _ k).symm, rfl⟩ .nil))))) h (decidedAtWindow_of_shows hk)
  | coasting =>
    simp only [classifyContact, hk, hstate] at h
    rw [Shows, hk] at h
    exact h
  | ended =>
    simp only [classifyContact, hk, hstate] at h
    exact tested_of_shows (.cons ⟨henable, rfl⟩ (.cons ⟨hsize, rfl⟩ (.cons ⟨hpalm, rfl⟩
      (.cons ⟨(flatTest_iff _ k).symm, rfl⟩ .nil)))) h id

theorem advanceConfirm_since (k : Contact) :
    (advanceConfirm k).sinceConfirm = k.sinceConfirm.map fun n => min (n + 1) 255 := rfl

/-- A held FINGER contact that is tried (R84), and one that is not. -/
theorem heldFinger_of_tried
    (htried : (advanceConfirm k).sinceConfirm.getD 0 ≤ (sectionOf sf b).retractFrames ∧ k.retractedMark = false) :
    heldFinger sf b v seen k = match retractionTests sf b v seen (advanceConfirm k) with
      | some r => (retractContact .palm r (advanceConfirm k), .retracted)
      | none => (advanceConfirm k, .nothing) :=
  (if_pos (by exact htried)).trans rfl

theorem heldFinger_of_not_tried
    (htried : ¬((advanceConfirm k).sinceConfirm.getD 0 ≤ (sectionOf sf b).retractFrames ∧ k.retractedMark = false)) :
    heldFinger sf b v seen k = (advanceConfirm k, .nothing) :=
  (if_neg (by exact htried)).trans rfl

theorem shows_advanceConfirm (hk : k.cls = .finger) (h : Shows k' (advanceConfirm k)) :
    Becomes k' .finger k.reason (k.sinceConfirm.map fun n => min (n + 1) 255) k.retractedMark := by
  rw [← hk]
  exact h

theorem fingerMoves_of_shows (hnear : ∀ x, neighbourTest (sectionOf sf b) seen x = true ↔
      NearPalm (sectionOf sf b) others x)
    (hk : k.cls = .finger) (hon : ¬(v.enable = false ∧ k.retractedMark = false))
    (h : Shows k' (classifyContact sf b v seen k).1) : FingerMoves sf b v others k k' := by
  refine ⟨fun hoff => absurd hoff hon, fun _ hnot => ?_, fun _ htried => ?_⟩
  · cases hstate : k.state with
    | held =>
      simp only [classifyContact, hk, hstate] at h
      rw [heldFinger_of_not_tried fun htried => hnot ⟨hstate, by simpa [hstate, advanceConfirm_since] using htried⟩] at h
      exact shows_advanceConfirm hk h
    | coasting =>
      simp only [classifyContact, hk, hstate] at h
      exact shows_advanceConfirm hk h
    | fresh =>
      simp only [classifyContact, hk, hstate] at h
      rw [Shows, hk] at h
      exact h
    | ended =>
      simp only [classifyContact, hk, hstate] at h
      rw [Shows, hk] at h
      exact h
  · obtain ⟨hstate, hwindow, hmark⟩ := htried
    simp only [classifyContact, hk, hstate] at h
    rw [heldFinger_of_tried ⟨by simpa [hstate, advanceConfirm_since] using hwindow, hmark⟩] at h
    refine ⟨retractionTests sf b v seen (advanceConfirm k), firstMet_of_tests ?_, fun r hr => ?_, fun hnone => ?_⟩
    · exact .cons ⟨(sizeTest_iff _ k).symm, rfl⟩ (.cons ⟨(edgeGrowTest_iff _ k).symm, rfl⟩
        (.cons ⟨(hnear k).symm, rfl⟩ (.cons ⟨(newActivationTest_iff sf b.screenOnly v k).symm, rfl⟩ .nil)))
    · rw [hr] at h
      simp only [hstate, true_or, if_true]
      exact h
    · rw [hnone] at h
      simp only [hstate, true_or, if_true]
      exact shows_advanceConfirm hk h

theorem classMoves_of_shows (hnear : ∀ x, neighbourTest (sectionOf sf b) seen x = true ↔
      NearPalm (sectionOf sf b) others x)
    (h : Shows k' (classifyContact sf b v seen (suspendContact v k).1).1) : ClassMoves sf b v others k k' := by
  by_cases hoff : v.enable = false ∧ endingRetracts k = true
  · obtain ⟨henable, hretracts⟩ := hoff
    obtain ⟨hcls, hmark⟩ : k.cls = .finger ∧ k.retractedMark = false := by simpa [endingRetracts] using hretracts
    rw [suspendContact_of_off henable hretracts] at h
    simp only [ClassMoves, hcls]
    have hoff : v.enable = false ∧ k.retractedMark = false := ⟨henable, hmark⟩
    exact ⟨fun _ => h, fun hnot => absurd hoff hnot, fun hnot => absurd hoff hnot⟩
  · rw [suspendContact_of_not (by simpa [or_iff_not_imp_left] using hoff)] at h
    unfold ClassMoves
    cases hcls : k.cls with
    | undecided => exact undecidedMoves_of_shows hnear hcls h
    | finger =>
      exact fingerMoves_of_shows hnear hcls
        (fun ⟨henable, hmark⟩ => hoff ⟨henable, by simp [endingRetracts, hcls, hmark]⟩) h
    | palm =>
      simp only [classifyContact, hcls] at h
      rw [Shows, hcls] at h
      exact h
    | ignored =>
      simp only [classifyContact, hcls] at h
      rw [Shows, hcls] at h
      exact h

end

/-! ### Contact by contact (R71) -/

section
variable (sf : Surface) (b : Bank) (v : FrameView)

/-- Each contact is classified against those before it as the stage has left them and those after it. -/
theorem getElem?_classifyFrom (done l : List Contact) (i : Nat) (k : Contact) (hk : l[i]? = some k) :
    (classifyFrom sf b v done l)[i]? = some (classifyContact sf b v
      (done ++ ((classifyFrom sf b v done l).take i).map (·.1) ++ l.drop (i + 1)) k) := by
  induction l generalizing done i with
  | nil => simp at hk
  | cons x l ih =>
    cases i with
    | zero =>
      obtain rfl : x = k := by simpa using hk
      simp [classifyFrom]
    | succ i =>
      have htail := ih (done ++ [(classifyContact sf b v (done ++ l) x).1]) i (by simpa using hk)
      simpa [classifyFrom] using htail

theorem shows_updateDisplacement (k : Contact) : Shows (updateDisplacement k) k := by
  rw [updateDisplacement_eq]
  exact ⟨rfl, rfl, rfl, rfl⟩

/-- The neighbour test reads of the other contacts only what neither the suspension nor the displacement moves. -/
theorem nearPalm_map {p : SurfaceParams} {g : Contact → Contact} (hcls : ∀ o, (g o).cls = .palm ↔ o.cls = .palm)
    (hstate : ∀ o, (g o).state = o.state) (hmapped : ∀ o, (g o).mapped = o.mapped) (l : List Contact) (k : Contact) :
    NearPalm p (l.map g) k ↔ NearPalm p l k := by
  simp [NearPalm, hcls, hstate, hmapped]

theorem nearPalm_append (p : SurfaceParams) (l m : List Contact) (k : Contact) :
    NearPalm p (l ++ m) k ↔ NearPalm p l k ∨ NearPalm p m k := by
  simp [NearPalm, or_and_right, exists_or]

theorem nearPalm_updated (p : SurfaceParams) (l : List Contact) (k : Contact) :
    NearPalm p (l.map updateDisplacement) k ↔ NearPalm p l k :=
  nearPalm_map (fun o => by rw [updateDisplacement_eq]; rfl) (fun o => by rw [updateDisplacement_eq]; rfl)
    (fun o => by rw [updateDisplacement_eq]; rfl) l k

theorem nearPalm_suspended (p : SurfaceParams) (l : List Contact) (k : Contact) :
    NearPalm p (l.map fun o => (suspendContact v o).1) k ↔ NearPalm p l k := by
  refine nearPalm_map (fun o => ?_) (fun o => ?_) (fun o => ?_) l k
  · unfold suspendContact
    split
    next hoff =>
      obtain ⟨-, hretracts⟩ := Bool.and_eq_true_iff.mp hoff
      obtain ⟨hcls, -⟩ : o.cls = .finger ∧ o.retractedMark = false := by simpa [endingRetracts] using hretracts
      rw [hcls]
      exact ⟨nofun, nofun⟩
    next => exact Iff.rfl
  · unfold suspendContact
    split <;> rfl
  · unfold suspendContact
    split <;> rfl

/-- How the stage classifies the contacts of a frame, one after the other. -/
theorem classifyTable_moves (mid : List Contact) {i : Nat} {k k' : Contact} (hk : mid[i]? = some k)
    (hk' : ((classifyTable sf b v mid).table.map updateDisplacement)[i]? = some k') :
    ClassMoves sf b v (((classifyTable sf b v mid).table.map updateDisplacement).take i ++ mid.drop (i + 1)) k k' := by
  rw [classifyTable_table] at hk' ⊢
  have hpass := getElem?_classifyFrom sf b v [] (mid.map fun k => (suspendContact v k).1) i _
    (by rw [List.getElem?_map, hk]; rfl)
  rw [List.getElem?_map, secondPass, hpass, Option.map_some, Option.some_inj] at hk'
  subst hk'
  refine classMoves_of_shows (fun x => ?_) (shows_updateDisplacement _)
  rw [neighbourTest_iff, List.nil_append, ← List.map_drop, nearPalm_append, nearPalm_append, nearPalm_suspended,
    ← List.map_take, ← nearPalm_updated _ (List.map _ _), List.map_map]
  rfl

end

/-! ### Fingers off (R86) -/

/-- With fingers off no contact comes out of classification as FINGER. -/
theorem classMoves_not_finger {sf : Surface} {b : Bank} {v : FrameView} {others : List Contact} {k k' : Contact}
    (h : ClassMoves sf b v others k k') (hoff : v.enable = false) (hfinal : RetractedIsFinal k) : k'.cls ≠ .finger := by
  have ignored {tests : List (Prop × (Class × Reason))} {left : Prop}
      (h : Tested k k' ((v.enable = false, (.ignored, .suspended)) :: tests) left) : k'.cls ≠ .finger := by
    obtain ⟨met, hmet, hrejected, -⟩ := h
    obtain ⟨hcls, -⟩ := hrejected _ (hmet.1 hoff)
    rw [hcls]
    exact nofun
  have becomes {cls : Class} {r : Reason} {n : Option Nat} {m : Bool} (h : Becomes k' cls r n m)
      (hcls : cls ≠ .finger) : k'.cls ≠ .finger := by rwa [h.1]
  unfold ClassMoves at h
  cases hcls : k.cls with
  | undecided =>
    simp only [hcls, UndecidedMoves] at h
    cases hstate : k.state with
    | coasting => rw [hstate] at h; exact becomes h nofun
    | _ => rw [hstate] at h; exact ignored h
  | finger =>
    simp only [hcls] at h
    have hmark : k.retractedMark = false := by
      refine Bool.eq_false_iff.mpr fun hmark => ?_
      obtain hpalm | hignored := hfinal hmark <;> simp_all
    exact becomes (h.1 ⟨hoff, hmark⟩) nofun
  | palm => rw [hcls] at h; exact becomes h nofun
  | ignored => rw [hcls] at h; exact becomes h nofun

section
variable {sf : Surface} {st : FrameStart} {f : Frame} {u : SurfaceUnit}

theorem matchedContact_final {p : SurfaceParams} {gap : Bool} {claim : Option Blob} {k : Contact}
    (hk : RetractedIsFinal k) : RetractedIsFinal (matchedContact p gap claim k) := by
  unfold matchedContact
  split
  · exact hk
  · dsimp only
    split_ifs <;> exact hk

theorem madeFrom_final {p : SurfaceParams} {zones : ZoneTable} {time : Time} {held others : List Nat} {pointer : Nat}
    {number : BitVec 32} {slots : List Nat} {bs : List Blob} :
    ∀ k ∈ madeFrom p zones time held others pointer number slots bs, RetractedIsFinal k := by
  induction bs generalizing held pointer number slots with
  | nil => cases slots <;> simp [madeFrom]
  | cons b bs ih =>
    cases slots with
    | nil => simp [madeFrom]
    | cons slot slots => exact List.forall_mem_cons.mpr ⟨nofun, ih⟩

theorem mem_zipWith_matched {p : SurfaceParams} {gap : Bool} {claims : List (Option Blob)} {old : List Contact}
    {x : Contact} (hx : x ∈ List.zipWith (matchedContact p gap) claims old) :
    ∃ claim, ∃ k ∈ old, x = matchedContact p gap claim k := by
  obtain ⟨i, hi, rfl⟩ := List.mem_iff_getElem.mp hx
  exact ⟨_, _, List.getElem_mem _, List.getElem_zipWith⟩

theorem trackedMid_final (h : ∀ k ∈ u.table, RetractedIsFinal k) : ∀ k ∈ trackedMid sf st f u, RetractedIsFinal k := by
  intro k hk
  obtain hmatched | hmade := List.mem_append.mp (mem_byCreation.1 hk)
  · obtain ⟨claim, x, hx, rfl⟩ := mem_zipWith_matched hmatched
    exact matchedContact_final (h x (mem_byCreation.1 hx))
  · exact madeFrom_final k hmade

theorem trackedTable_moves {i : Nat} {k k' : Contact} (hk : (trackedMid sf st f u)[i]? = some k)
    (hk' : (trackedTable sf st f u)[i]? = some k') : ClassMoves sf st.snap.values st.view
      ((trackedTable sf st f u).take i ++ (trackedMid sf st f u).drop (i + 1)) k k' := by
  rw [trackedTable, trackedClasses_eq] at hk' ⊢
  exact classifyTable_moves sf st.snap.values st.view _ hk hk'

theorem trackedTable_not_finger (hoff : st.view.enable = false) (h : ∀ k ∈ u.table, RetractedIsFinal k) :
    ∀ k ∈ trackedTable sf st f u, k.cls ≠ .finger := by
  intro k' hk'
  obtain ⟨i, hi⟩ := List.mem_iff_getElem?.mp hk'
  have hlength := (trackedTable_classified sf st f u).1.length_eq
  obtain ⟨hlt, -⟩ := List.getElem?_eq_some_iff.mp hi
  have hk : (trackedMid sf st f u)[i]? = some (trackedMid sf st f u)[i] := List.getElem?_eq_getElem (hlength ▸ hlt)
  exact classMoves_not_finger (trackedTable_moves hk hi) hoff (trackedMid_final h _ (List.getElem_mem _))

end

/-- Settles O34. Each contact is classified by the model's tests against the contacts around it; with fingers off the
first test met ignores it, or the suspension retracts it. -/
theorem noFingerWhileFingersOff : Obligations.NoFingerWhileFingersOff := by
  intro sf s f st hrun hframe hwork hhanded
  refine ⟨_, _, _, exec_processingEnd hrun hframe (.inr hhanded), endFrame_trackedFrame hwork hhanded,
    fun i k k' hk hk' => trackedTable_moves hk hk', fun hoff hfinal k hk => ?_⟩
  have htable : (surfaceOf (endFrame sf st f s) sf).table =
      ((trackedTable sf st f (surfaceOf s sf)).filter fun k => k.state != .ended).map
        fun k => { k with flags := noContactFlags } :=
    congrArg SurfaceUnit.table ((endFrame_surface_and_rest hwork).1.trans (endedUnit_tracked hhanded))
  rw [htable] at hk
  obtain ⟨x, hx, rfl⟩ := List.mem_map.mp hk
  exact trackedTable_not_finger hoff hfinal x (List.mem_of_mem_filter hx)

end Sys2Proof.Machine
end

section
/-! The frame work of the Gesture Engine (R113), stage by stage, and the gesture in service through them. -/

namespace Sys2Proof.Machine

/-! ### The model's terms and the statement's -/

theorem endEvent_eq (v : Service) (o : EndOutcome) (t : Time) : endEvent v o t = gestureEnded v (outcomeCode o) t := rfl

theorem endMember_eq (f : GestureInput) (w : GestureWork) (v : Service) : endMember f w v = memberEnded f v w := rfl

theorem spanOf_eq (l : List Pt) : spanOf l = firstSpan l := by
  match l with
  | [] => rfl
  | [_] => rfl
  | _ :: _ :: _ => rfl

theorem meanOf_motion (f : GestureInput) (members : List (Nat × Pt)) :
    meanOf (members.map fun m => ptSub (memberPos f m) m.2) = meanMotion f members := by
  simp only [meanOf, meanMotion, List.map_map, List.length_map]
  rfl

theorem sameIds_iff (a b : List Nat) : sameIds a b = true ↔ ∀ i, i ∈ a ↔ i ∈ b := by
  simp only [sameIds, Bool.and_eq_true, List.all_eq_true, List.contains_iff_mem]
  exact ⟨fun ⟨hab, hba⟩ i => ⟨hab i, hba i⟩, fun h => ⟨fun i => (h i).mp, fun i => (h i).mpr⟩⟩

theorem sameIds_fingers (f : GestureInput) (members : List (Nat × Pt)) :
    sameIds ((fingerSet f).map (·.id)) (members.map (·.1)) = true ↔ AreFingers f members :=
  sameIds_iff _ _

/-- A work whose service is replaced by the one it has is unchanged. -/
theorem withService_same {w : GestureWork} {o : Option Service} (h : w.engine.service = o) :
    { w with engine := { w.engine with service := o } } = w := by
  rw [← h]

theorem withSequence_same {w : GestureWork} {o : Option Sequence} (h : w.engine.sequence = o) :
    { w with engine := { w.engine with sequence := o } } = w := by
  rw [← h]

/-! ### Stage 1: ends -/

theorem hasEnded_iff (f : GestureInput) (i : Nat) :
    hasEnded f i = true ↔ ∃ k, contactOf f i = some k ∧ k.state = .ended := by
  unfold hasEnded
  cases contactOf f i <;> simp

theorem endsStage : EndsStage := by
  intro f w
  refine ⟨fun hnone => by simp only [stageEnds, hnone], fun v hv => ?_⟩
  have hretracted : (v.members.any fun m => f.retracted.contains m.1) = true ↔
      ∃ m ∈ v.members, m.1 ∈ f.retracted := by simp
  have hended : (v.members.any fun m => hasEnded f m.1) = true ↔
      ∃ m ∈ v.members, ∃ k, contactOf f m.1 = some k ∧ k.state = .ended := by
    simp only [List.any_eq_true, hasEnded_iff]
  refine ⟨fun hr => ?_, fun hr he => ?_, fun hr he => ?_⟩
  · simp only [stageEnds, hv, if_pos (hretracted.mpr hr)]
    rfl
  · simp only [stageEnds, hv, if_neg (mt hretracted.mp hr), if_pos (hended.mpr he), endMember_eq]
  · simp only [stageEnds, hv, if_neg (mt hretracted.mp hr), if_neg (mt hended.mp he)]

/-! ### Stage 2: confirmations -/

theorem inDragLock_iff (v : Service) : inDragLock v = true ↔ LockedDrag v := by
  simp [inDragLock, LockedDrag, and_assoc]

/-- The first finger opens a sequence where none is open. -/
def withOpened (k : Contact) (down : Pt) (w : GestureWork) : GestureWork :=
  { w with engine := { w.engine with sequence := some (w.engine.sequence.getD
    { start := k.entered, first := k.id, tapPos := down, firstZone := k.zoneFlags, maxFingers := 1, maxDisp := 0
      granted := false, retracted := false }) } }

theorem openSequence_eq {k : Contact} {down : Pt} (hdown : k.down = some down) : openSequence k =
    { start := k.entered, first := k.id, tapPos := down, firstZone := k.zoneFlags, maxFingers := 1, maxDisp := 0
      granted := false, retracted := false } := by
  rw [openSequence, hdown, Option.getD_some]

theorem firstFinger_opens {f : GestureInput} {k : Contact} {down : Pt} {w : GestureWork} (hdown : k.down = some down)
    (h : w.engine.sequence.isSome = true ∨ w.engine.tap = none ∨ k.state = .ended) :
    firstFinger f k w = withOpened k down w := by
  unfold firstFinger withOpened
  cases hseq : w.engine.sequence with
  | some q => exact (withSequence_same hseq).symm
  | none =>
    rw [openSequence_eq hdown, Option.getD_none]
    cases htap : w.engine.tap with
    | none => rfl
    | some tap => exact if_pos (by simpa [hseq, htap] using h)

theorem firstFinger_tests {f : GestureInput} {k : Contact} {down : Pt} {w : GestureWork} {p : PendingTap}
    (hdown : k.down = some down) (hseq : w.engine.sequence = none) (htap : w.engine.tap = some p)
    (hk : k.state ≠ .ended) : firstFinger f k w = dragTest f k p (withOpened k down w) := by
  unfold firstFinger withOpened
  rw [hseq, htap, openSequence_eq hdown, Option.getD_none]
  exact if_neg hk

theorem stageConfirmations_of_head {f : GestureInput} {w : GestureWork} {i : Nat} {k : Contact}
    (hhead : f.confirmed.head? = some i) (hk : contactOf f i = some k) :
    stageConfirmations f w = firstFinger f k (joinDrag f k w) := by
  simp only [stageConfirmations, hhead, Option.bind_some, hk]

theorem joinDrag_of_locked {f : GestureInput} {k : Contact} {w : GestureWork} {v : Service}
    (hv : w.engine.service = some v) (hlocked : LockedDrag v) :
    let joined : Service := { v with members := [(k.id, k.filtered)], lock := none }
    let x : GestureWork := { w with engine := { w.engine with service := some joined }, granted := true }
    joinDrag f k w = if k.state = .ended then memberEnded f joined x else x := by
  simp only [joinDrag, hv, if_pos ((inDragLock_iff v).mpr hlocked), endMember_eq]

theorem joinDrag_of_not_locked {f : GestureInput} {k : Contact} {w : GestureWork}
    (h : ∀ v, w.engine.service = some v → ¬LockedDrag v) : joinDrag f k w = w := by
  unfold joinDrag
  cases hv : w.engine.service with
  | none => rfl
  | some v => exact if_neg (mt (inDragLock_iff v).mp (h v hv))

theorem memberEnded_sequence_tap (f : GestureInput) (v : Service) (w : GestureWork) :
    (memberEnded f v w).engine.sequence = w.engine.sequence ∧ (memberEnded f v w).engine.tap = w.engine.tap := by
  unfold memberEnded
  split <;> exact ⟨rfl, rfl⟩

/-- What the drag test makes of the pending tap (R136). -/
theorem dragTest_eq {f : GestureInput} {k : Contact} {down : Pt} {w : GestureWork} {p : PendingTap}
    (hdown : k.down = some down) : dragTest f k p w =
      if ptDist down p.pos ≤ f.params.dragRadius then
        granted f .drag [(k.id, k.filtered)] { x := 0, y := 0 } 0 { w with engine := { w.engine with tap := none } }
      else { w with engine := { w.engine with tap := none }, events := w.events ++ [tapped p.fingers p.pos p.lift] } := by
  rw [dragTest, hdown]
  rfl

theorem confirmationsStage : ConfirmationsStage := by
  intro f w
  refine ⟨fun hnone => by simp [stageConfirmations, hnone], fun i k down hhead hk hdown => ?_⟩
  rw [stageConfirmations_of_head hhead hk]
  refine ⟨fun v hv hlocked hquiet => ?_, fun hnot => ?_⟩
  · rw [joinDrag_of_locked hv hlocked]
    refine firstFinger_opens hdown ?_
    split
    · rw [(memberEnded_sequence_tap f _ _).1, (memberEnded_sequence_tap f _ _).2]
      exact hquiet.imp_right .inl
    · exact hquiet.imp_right .inl
  · rw [joinDrag_of_not_locked hnot]
    refine ⟨fun hquiet => firstFinger_opens hdown hquiet, fun p hseq htap hstate => ?_⟩
    rw [firstFinger_tests hdown hseq htap hstate, dragTest_eq hdown]
    exact ⟨fun hnear => if_pos hnear, fun hfar => if_neg (not_le.mpr hfar)⟩

/-! ### Stage 3: the reference set -/

theorem referenceStage : ReferenceStage := by
  intro f w
  have hsame := sameIds_fingers f w.engine.reference.members
  refine ⟨fun h => if_pos (hsame.mpr h), fun h => (if_neg (mt hsame.mp h)).trans ?_⟩
  simp only [takeReference, membersOf, spanOf_eq, List.length_map, List.map_map]
  rfl

/-! ### Stage 4: claims -/

/-- The mean motion of the fingers since the reference, and the change of their span (R119). -/
def commonMotion (f : GestureInput) (r : Reference) : Nat :=
  octDist (meanMotion f r.members).x (meanMotion f r.members).y

/-- The change of the fingers' span since the reference (R119). -/
def spanChange (f : GestureInput) (r : Reference) : Int :=
  (firstSpan ((membersOf (fingerSet f)).map (·.2)) : Int) - ((r.span0.getD 0 : Nat) : Int)

/-- The claim that a frame raises (Table 6-3). -/
def Raises (f : GestureInput) (r : Reference) (g : Gesture) (span : Int) : Prop :=
  (g = .pinch ∧ (fingersOf f).length = 2 ∧ f.params.pinchStart ≤ (spanChange f r).natAbs ∧ span = spanChange f r) ∨
  (g = .scroll ∧ (fingersOf f).length = 2 ∧ f.params.scrollStart ≤ commonMotion f r ∧
    (spanChange f r).natAbs < f.params.pinchStart ∧ span = 0) ∨
  (g = .swipe3 ∧ (fingersOf f).length = 3 ∧ f.params.swipeStart ≤ commonMotion f r ∧ span = 0) ∨
  (g = .swipe4 ∧ (fingersOf f).length = 4 ∧ f.params.swipeStart ≤ commonMotion f r ∧ span = 0)

/-- The claim itself, of the fingers with their mean motion since the reference. -/
def raisedClaim (f : GestureInput) (r : Reference) (g : Gesture) (span : Int) : Claim :=
  { gesture := g, members := membersOf (fingerSet f), motion := meanMotion f r.members, span := span }

theorem claimOf_eq (f : GestureInput) (r : Reference) : claimOf f r = match (fingersOf f).length with
    | 2 =>
      if f.params.pinchStart ≤ (spanChange f r).natAbs then some (raisedClaim f r .pinch (spanChange f r))
      else if f.params.scrollStart ≤ commonMotion f r then some (raisedClaim f r .scroll 0) else none
    | 3 => if f.params.swipeStart ≤ commonMotion f r then some (raisedClaim f r .swipe3 0) else none
    | 4 => if f.params.swipeStart ≤ commonMotion f r then some (raisedClaim f r .swipe4 0) else none
    | _ => none := by
  have hmean : meanDisplacement f r = meanMotion f r.members := meanOf_motion f r.members
  have hspan : spanOf ((fingerSet f).map (·.filtered)) = firstSpan ((membersOf (fingerSet f)).map (·.2)) := by
    rw [spanOf_eq, membersOf, List.map_map]
    rfl
  unfold claimOf
  simp only [hmean, hspan]
  rfl

/-- What a list of at most one claim says of the claims raised. -/
def ClaimAgrees (f : GestureInput) (r : Reference) (claim : Option Claim) : Prop :=
  (∀ g span, Raises f r g span → claim = some (raisedClaim f r g span)) ∧
    (claim.isSome = true → ∃ g span, Raises f r g span)

theorem claimAgrees_some {f : GestureInput} {r : Reference} {g : Gesture} {span : Int} (h : Raises f r g span)
    (hunique : ∀ g' span', Raises f r g' span' → g' = g ∧ span' = span) :
    ClaimAgrees f r (some (raisedClaim f r g span)) := by
  refine ⟨fun g' span' h' => ?_, fun _ => ⟨g, span, h⟩⟩
  obtain ⟨rfl, rfl⟩ := hunique g' span' h'
  rfl

theorem claimAgrees_none {f : GestureInput} {r : Reference} (h : ∀ g span, ¬Raises f r g span) :
    ClaimAgrees f r none :=
  ⟨fun g span hr => absurd hr (h g span), nofun⟩

theorem claimOf_agrees (f : GestureInput) (r : Reference) : ClaimAgrees f r (claimOf f r) := by
  rw [claimOf_eq]
  split
  case h_1 hn =>
    split_ifs with hpinch hscroll
    · exact claimAgrees_some (.inl ⟨rfl, hn, hpinch, rfl⟩) fun g span h => by
        simpa [Raises, hn, not_lt.mpr hpinch, hpinch] using h
    · exact claimAgrees_some (.inr (.inl ⟨rfl, hn, hscroll, not_le.mp hpinch, rfl⟩)) fun g span h => by
        simpa [Raises, hn, hpinch, hscroll, not_le.mp hpinch] using h
    · exact claimAgrees_none fun g span h => by simp [Raises, hn, hpinch, hscroll] at h
  case h_2 hn =>
    split_ifs with hswipe
    · exact claimAgrees_some (.inr (.inr (.inl ⟨rfl, hn, hswipe, rfl⟩))) fun g span h => by
        simpa [Raises, hn, hswipe] using h
    · exact claimAgrees_none fun g span h => by simp [Raises, hn, hswipe] at h
  case h_3 hn =>
    split_ifs with hswipe
    · exact claimAgrees_some (.inr (.inr (.inr ⟨rfl, hn, hswipe, rfl⟩))) fun g span h => by
        simpa [Raises, hn, hswipe] using h
    · exact claimAgrees_none fun g span h => by simp [Raises, hn, hswipe] at h
  case h_4 htwo hthree hfour =>
    exact claimAgrees_none fun g span h => by simp_all [Raises]

theorem grantClaim_eq (f : GestureInput) (c : Claim) (w : GestureWork) :
    grantClaim f c w = granted f c.gesture c.members c.motion c.span w := by
  simp only [grantClaim, granted, spanOf_eq]
  rfl

theorem preempts_iff (c : Claim) (v : Service) : preempts c v = true ↔
    priority v.gesture < priority c.gesture ∧ ∀ m ∈ v.members, m.1 ∈ c.members.map (·.1) := by
  simp [preempts]

theorem stageClaims_of_none {f : GestureInput} {w : GestureWork}
    (h : ∀ g span, ¬Raises f w.engine.reference g span) : stageClaims f w = w := by
  have hnone : claimOf f w.engine.reference = none := by
    refine Option.not_isSome_iff_eq_none.mp fun hsome => ?_
    obtain ⟨g, span, hraises⟩ := (claimOf_agrees f w.engine.reference).2 hsome
    exact h g span hraises
  simp only [stageClaims, hnone]

section
variable {f : GestureInput} {w : GestureWork} {g : Gesture} {span : Int}

/-- A claim granted, the members and the motion being the fingers'. -/
def claimGranted (f : GestureInput) (r : Reference) (g : Gesture) (span : Int) (w : GestureWork) : GestureWork :=
  granted f g ((fingersOf f).map fun k => (k.id, k.filtered)) (meanMotion f r.members) span w

theorem stageClaims_of_free (h : Raises f w.engine.reference g span) (hfree : w.engine.service = none) :
    stageClaims f w = if f.params.gestureFloor < priority g then claimGranted f w.engine.reference g span w else w := by
  simp only [stageClaims, (claimOf_agrees f w.engine.reference).1 g span h, hfree, grantClaim_eq]
  rfl

theorem stageClaims_of_busy {v : Service} (h : Raises f w.engine.reference g span) (hv : w.engine.service = some v) :
    stageClaims f w = if preempts (raisedClaim f w.engine.reference g span) v then
      claimGranted f w.engine.reference g span
        { w with engine := { w.engine with service := none }, events := w.events ++ [gestureEnded v 2 f.time] }
      else w := by
  simp only [stageClaims, (claimOf_agrees f w.engine.reference).1 g span h, hv, grantClaim_eq]
  rfl

end

theorem claimsStage : ClaimsStage := by
  intro f w
  refine ⟨fun hnone => stageClaims_of_none hnone, fun g span h => ⟨fun hfree => ?_, fun v hv => ?_⟩⟩
  · rw [stageClaims_of_free h hfree]
    exact ⟨fun habove => if_pos habove, fun hfloor => if_neg (not_lt.mpr hfloor)⟩
  · rw [stageClaims_of_busy h hv]
    refine ⟨fun hprior hkeeps => if_pos ((preempts_iff _ v).mpr ⟨hprior, hkeeps⟩), fun hnot => if_neg fun hpre => ?_⟩
    obtain ⟨hprior, hkeeps⟩ := (preempts_iff _ v).mp hpre
    obtain hlow | hlost := hnot
    · exact absurd hprior (not_lt.mpr hlow)
    · exact hlost hkeeps

/-! ### Stage 5: steps -/

theorem memberSpan_eq (f : GestureInput) (v : Service) :
    memberSpan f v = firstSpan ((v.members.map fun m => (m.1, memberPos f m)).map (·.2)) := by
  rw [memberSpan, spanOf_eq, List.map_map]
  rfl

theorem stepsStage : StepsStage := by
  intro f w
  refine ⟨fun hnone => by simp only [stageSteps, hnone], fun v hv => ?_⟩
  intro now motion span steps updated
  have hmotion : stepMotion f v = motion := meanOf_motion f v.members
  have hupdated : updateLast f v = updated := by
    simp only [updateLast, memberSpan_eq, updated, now]
  have hsteps : (!w.granted && !v.members.isEmpty && sameIds ((fingerSet f).map (·.id)) (v.members.map (·.1))
      && (motion != ⟨0, 0⟩ || span != 0)) = true ↔ steps := by
    simp only [Bool.and_eq_true, sameIds_fingers, and_assoc, Bool.not_eq_true', List.isEmpty_eq_false_iff,
      Bool.or_eq_true, bne_iff_ne, steps]
  have hstage : stageSteps f w = if (!w.granted && !v.members.isEmpty &&
        sameIds ((fingerSet f).map (·.id)) (v.members.map (·.1)) && (motion != ⟨0, 0⟩ || span != 0)) = true then
      { w with
        engine := { w.engine with service := some { updated with steps := min (v.steps + 1) 65535 } }
        events := w.events ++ [movingEvent .gestureStep v 1 motion span f.time] }
      else { w with engine := { w.engine with service := some updated } } := by
    simp only [stageSteps, hv, hmotion, hupdated, memberSpan_eq]
    rfl
  rw [hstage]
  exact ⟨fun h => if_pos (hsteps.mpr h), fun h => if_neg (mt hsteps.mp h)⟩

/-! ### Stage 6: the touch sequence -/

theorem greatestOf_cons (a : Nat) (l : List Nat) : greatestOf (a :: l) = l.foldl max a := by
  rw [greatestOf, List.max?_cons', Option.getD_some]

theorem publishTap_eq (tap : Option PendingTap) : publishTap tap = match tap with
    | some p => [tapped p.fingers p.pos p.lift]
    | none => [] := by
  cases tap <;> rfl

/-- The conditions of a tap (R132). -/
def IsTapNow (f : GestureInput) (q : Sequence) : Prop :=
  q.granted = false ∧ q.retracted = false ∧ (f.time - q.start).toNat ≤ f.params.tapTime ∧
    q.maxDisp ≤ f.params.tapSlop ∧ 1 ≤ q.maxFingers ∧ q.maxFingers ≤ 3 ∧ q.firstZone.noTap = false ∧
    f.typing = false ∧ f.params.gestureFloor = 0

theorem isTap_iff (f : GestureInput) (q : Sequence) : isTap f q = true ↔ IsTapNow f q := by
  simp [isTap, IsTapNow, and_assoc]

theorem sequenceStage : SequenceStage := by
  intro f w
  refine ⟨fun hnone => by simp only [stageSequence, hnone], fun q hq => ?_⟩
  intro q' tap before
  have hq' : updateSequence f w.granted q = q' := by
    simp only [updateSequence, greatestOf_cons, q']
    rfl
  have htap : isTap f q' = true ↔ tap := isTap_iff f q'
  have hstage : stageSequence f w = if (fingerSet f).isEmpty then
        if isTap f q' then takeTap f q' { w with engine := { w.engine with sequence := none } }
        else { w with engine := { w.engine with sequence := none } }
      else { w with engine := { w.engine with sequence := some q' } } := by
    simp only [stageSequence, hq, hq']
  have hfingers : (fingerSet f).isEmpty = true ↔ fingersOf f = [] := List.isEmpty_iff
  have hbefore : publishTap w.engine.tap = before := publishTap_eq _
  rw [hstage]
  refine ⟨fun hsome => if_neg (mt hfingers.mp hsome), fun hnone hnot => ?_, fun hnone hmet hone => ?_,
    fun hnone hmet hmore => ?_⟩
  · exact (if_pos (hfingers.mpr hnone)).trans (if_neg (mt htap.mp hnot))
  · rw [if_pos (hfingers.mpr hnone), if_pos (htap.mpr hmet), takeTap, if_pos hone, hbefore]
    rfl
  · rw [if_pos (hfingers.mpr hnone), if_pos (htap.mpr hmet), takeTap, if_neg hmore, hbefore]
    rfl

end Sys2Proof.Machine
end

section
/-! The frame work of the Gesture Engine as a whole (R113): its late expiries, and a gesture in service through it. -/

namespace Sys2Proof.Machine

/-! ### Late expiries (R134, R139) -/

/-- Whether a deadline has been reached. -/
def tapIsLate (now : Time) (g : GestureEngine) : Bool := g.tap.any fun p => reached now p.deadline

/-- Whether a drag lock's deadline has been reached. -/
def lockIsLate (now : Time) (g : GestureEngine) : Bool := g.service.any fun v => v.lock.any (reached now)

theorem expireTap_eq (now : Time) (g : GestureEngine) : expireTap now g =
    ({ g with tap := if tapIsLate now g then none else g.tap },
      if tapIsLate now g then g.tap.toList.map fun p => tapped p.fingers p.pos p.lift else []) := by
  obtain ⟨service, sequence, reference, tap, counter⟩ := g
  cases tap with
  | none => rfl
  | some p =>
    have hlate : tapIsLate now ⟨service, sequence, reference, some p, counter⟩ = reached now p.deadline := rfl
    cases hreached : reached now p.deadline with
    | true => rw [hlate, hreached]; exact if_pos hreached
    | false => rw [hlate, hreached]; exact if_neg (Bool.eq_false_iff.mp hreached)

theorem expireLock_eq (now : Time) (g : GestureEngine) : expireLock now g =
    ({ g with service := if lockIsLate now g then none else g.service },
      if lockIsLate now g then g.service.toList.map fun v => gestureEnded v 1 now else []) := by
  obtain ⟨service, sequence, reference, tap, counter⟩ := g
  cases service with
  | none => rfl
  | some v =>
    obtain ⟨gesture, inst, members, lastSpan, steps, lock⟩ := v
    cases lock with
    | none => rfl
    | some d =>
      have hlate : lockIsLate now ⟨some ⟨gesture, inst, members, lastSpan, steps, some d⟩, sequence, reference, tap,
        counter⟩ = reached now d := rfl
      cases hreached : reached now d with
      | true => rw [hlate, hreached]; exact if_pos hreached
      | false => rw [hlate, hreached]; exact if_neg (Bool.eq_false_iff.mp hreached)

theorem gestureFrame_eq (f : GestureInput) (now : Time) (g : GestureEngine) : gestureFrame f now g =
    (let w := gestureStages f g
     ({ w.engine with
          tap := if tapIsLate now w.engine then none else w.engine.tap
          service := if lockIsLate now w.engine then none else w.engine.service },
        w.events ++
          (if tapIsLate now w.engine then w.engine.tap.toList.map fun p => tapped p.fingers p.pos p.lift else []) ++
          (if lockIsLate now w.engine then w.engine.service.toList.map fun v => gestureEnded v 1 now else []))) := by
  simp only [gestureFrame, expireTap_eq, expireLock_eq]
  rfl

/-! ### A gesture in service (R123, R126 to R128) -/

/-- The same gesture under the same number is in service. -/
def Serves (v : Service) (o : Option Service) : Prop :=
  ∃ x, o = some x ∧ x.inst = v.inst ∧ x.gesture = v.gesture

/-- The end of the gesture is among some events. -/
def EndGiven (v : Service) (l : List Event) : Prop :=
  ∃ e ∈ l, e.kind = .gestureEnd ∧ e.inst = v.inst ∧ e.type = gestureCode v.gesture

theorem EndGiven.append {v : Service} {l : List Event} (h : EndGiven v l) (m : List Event) : EndGiven v (l ++ m) := by
  obtain ⟨e, he, hend⟩ := h
  exact ⟨e, List.mem_append_left _ he, hend⟩

theorem endGiven_gestureEnded {v x : Service} (hinst : x.inst = v.inst) (hgesture : x.gesture = v.gesture)
    (l : List Event) (outcome : Nat) (time : Time) : EndGiven v (l ++ [gestureEnded x outcome time]) :=
  ⟨_, List.mem_append_right _ (List.mem_singleton_self _), rfl, hinst, congrArg gestureCode hgesture⟩

/-- Up to the claims no number has been given out: the gesture serves, or its end is generated. -/
structure Going (v : Service) (c : Nat) (w : GestureWork) : Prop where
  counter : w.engine.counter = c
  tap : w.engine.tap = none
  goes : Serves v w.engine.service ∨ EndGiven v w.events

/-- From the claims on the next number may have been given out, if the gesture has ended. -/
def Settled (v : Service) (c : Nat) (w : GestureWork) : Prop :=
  (Serves v w.engine.service ∧ w.engine.counter = c) ∨
    (EndGiven v w.events ∧ (w.engine.counter = c ∨ w.engine.counter = instanceAfter c))

section
variable {f : GestureInput} {v : Service} {c : Nat} {w : GestureWork}

/-- A gesture whose end is generated leaves its own, if it was the one in service. -/
theorem endGiven_of_goes {x : Service} {l : List Event} (h : Serves v (some x) ∨ EndGiven v l) (outcome : Nat)
    (time : Time) : EndGiven v (l ++ [gestureEnded x outcome time]) := by
  obtain ⟨y, hy, hinst, hgesture⟩ | hgiven := h
  · obtain rfl := Option.some_inj.mp hy
    exact endGiven_gestureEnded hinst hgesture _ _ _
  · exact hgiven.append _

/-- A gesture in service stays so with other members, steps and lock. -/
theorem goes_of_same {x y : Service} {l : List Event} (h : Serves v (some x) ∨ EndGiven v l) (hinst : y.inst = x.inst)
    (hgesture : y.gesture = x.gesture) : Serves v (some y) ∨ EndGiven v l := by
  refine h.imp_left ?_
  rintro ⟨z, hz, hi, hg⟩
  obtain rfl := Option.some_inj.mp hz
  exact ⟨y, rfl, hinst.trans hi, hgesture.trans hg⟩

/-- A member's end leaves the gesture in service, locked, or generates its end. -/
theorem memberEnded_going {x : Service} (hcounter : w.engine.counter = c) (htap : w.engine.tap = none)
    (hgoes : Serves v (some x) ∨ EndGiven v w.events) : Going v c (memberEnded f x w) := by
  unfold memberEnded
  split
  · exact ⟨hcounter, htap, goes_of_same hgoes rfl rfl⟩
  · exact ⟨hcounter, htap, .inr (endGiven_of_goes hgoes _ _)⟩

theorem stageEnds_going (h : Going v c w) : Going v c (stageEnds f w) := by
  obtain ⟨hcounter, htap, hgoes⟩ := id h
  obtain ⟨hnone, hsome⟩ := endsStage f w
  cases hx : w.engine.service with
  | none => rwa [hnone hx]
  | some x =>
    rw [hx] at hgoes
    obtain ⟨hretracted, hended, hstays⟩ := hsome x hx
    by_cases hr : ∃ m ∈ x.members, m.1 ∈ f.retracted
    · rw [hretracted hr]
      exact ⟨hcounter, htap, .inr (endGiven_of_goes hgoes _ _)⟩
    · by_cases he : ∃ m ∈ x.members, ∃ k, contactOf f m.1 = some k ∧ k.state = .ended
      · rw [hended hr he]
        exact memberEnded_going hcounter htap hgoes
      · rwa [hstays hr he]

theorem joinDrag_going (k : Contact) (h : Going v c w) : Going v c (joinDrag f k w) := by
  obtain ⟨hcounter, htap, hgoes⟩ := id h
  by_cases hlocked : ∃ x, w.engine.service = some x ∧ LockedDrag x
  · obtain ⟨x, hx, hlocked⟩ := hlocked
    rw [hx] at hgoes
    rw [joinDrag_of_locked hx hlocked]
    split
    · exact memberEnded_going hcounter htap (goes_of_same hgoes rfl rfl)
    · exact ⟨hcounter, htap, goes_of_same hgoes rfl rfl⟩
  · rwa [joinDrag_of_not_locked fun x hx hl => hlocked ⟨x, hx, hl⟩]

/-- With no tap pending the first finger opens a sequence at most. -/
theorem firstFinger_of_no_tap (k : Contact) (htap : w.engine.tap = none) :
    ∃ q, firstFinger f k w = { w with engine := { w.engine with sequence := q } } := by
  unfold firstFinger
  cases hseq : w.engine.sequence with
  | some q => exact ⟨some q, (withSequence_same hseq).symm⟩
  | none => exact ⟨some (openSequence k), by rw [htap]⟩

theorem stageConfirmations_going (h : Going v c w) : Going v c (stageConfirmations f w) := by
  unfold stageConfirmations
  split
  case h_1 => exact h
  case h_2 k _ =>
    obtain ⟨hcounter, htap, hgoes⟩ := joinDrag_going (f := f) k h
    obtain ⟨q, hq⟩ := firstFinger_of_no_tap (f := f) k htap
    rw [hq]
    exact ⟨hcounter, htap, hgoes⟩

theorem stageReference_going (h : Going v c w) : Going v c (stageReference f w) := by
  obtain ⟨hsame, hretaken⟩ := referenceStage f w
  by_cases hfingers : AreFingers f w.engine.reference.members
  · rwa [hsame hfingers]
  · rw [hretaken hfingers]
    exact ⟨h.counter, h.tap, h.goes⟩

theorem Going.settled (h : Going v c w) : Settled v c w :=
  h.goes.imp (fun hserves => ⟨hserves, h.counter⟩) fun hgiven => ⟨hgiven, .inl h.counter⟩

theorem claimGranted_settled {r : Reference} {g : Gesture} {span : Int} (hcounter : w.engine.counter = c)
    (hgiven : EndGiven v w.events) : Settled v c (claimGranted f r g span w) :=
  .inr ⟨hgiven.append _, .inr (congrArg instanceAfter hcounter)⟩

theorem stageClaims_settled (h : Going v c w) : Settled v c (stageClaims f w) := by
  obtain ⟨hcounter, -, hgoes⟩ := id h
  by_cases hraised : ∃ g span, Raises f w.engine.reference g span
  case neg =>
    rw [stageClaims_of_none fun g span hr => hraised ⟨g, span, hr⟩]
    exact h.settled
  obtain ⟨g, span, hraises⟩ := hraised
  cases hx : w.engine.service with
  | none =>
    rw [stageClaims_of_free hraises hx]
    have hgiven : EndGiven v w.events := by
      refine hgoes.resolve_left ?_
      rintro ⟨y, hy, -⟩
      exact nomatch hx.symm.trans hy
    split
    · exact claimGranted_settled hcounter hgiven
    · exact h.settled
  | some x =>
    rw [stageClaims_of_busy hraises hx]
    rw [hx] at hgoes
    split
    · exact claimGranted_settled hcounter (endGiven_of_goes hgoes _ _)
    · exact h.settled

theorem stageSteps_settled (h : Settled v c w) : Settled v c (stageSteps f w) := by
  obtain ⟨hnone, hsome⟩ := stepsStage f w
  cases hx : w.engine.service with
  | none => rwa [hnone hx]
  | some x =>
    obtain ⟨hsteps, hstays⟩ := hsome x hx
    have hserves (y : Service) (hinst : y.inst = x.inst) (hgesture : y.gesture = x.gesture)
        (hserves : Serves v w.engine.service) : Serves v (some y) := by
      obtain ⟨z, hz, hi, hg⟩ := hserves
      obtain rfl := Option.some_inj.mp (hx.symm.trans hz)
      exact ⟨y, rfl, hinst.trans hi, hgesture.trans hg⟩
    by_cases hcond : w.granted = false ∧ x.members ≠ [] ∧ AreFingers f x.members ∧
        (meanMotion f x.members ≠ { x := 0, y := 0 } ∨ (if x.gesture = .pinch then
          (firstSpan ((x.members.map fun m => (m.1, memberPos f m)).map (·.2)) : Int) - (x.lastSpan : Int) else 0) ≠ 0)
    · rw [hsteps hcond]
      exact h.imp (fun ⟨hs, hcounter⟩ => ⟨hserves _ rfl rfl hs, hcounter⟩)
        fun ⟨hgiven, hcounter⟩ => ⟨hgiven.append _, hcounter⟩
    · rw [hstays hcond]
      exact h.imp (fun ⟨hs, hcounter⟩ => ⟨hserves _ rfl rfl hs, hcounter⟩) id

theorem stageSequence_settled (h : Settled v c w) : Settled v c (stageSequence f w) := by
  have kept {w' : GestureWork} (hservice : w'.engine.service = w.engine.service)
      (hcounter : w'.engine.counter = w.engine.counter) (hevents : ∃ l, w'.events = w.events ++ l) : Settled v c w' := by
    obtain ⟨l, hl⟩ := hevents
    rw [Settled, hservice, hcounter, hl]
    exact h.imp_right fun ⟨hgiven, hc⟩ => ⟨hgiven.append _, hc⟩
  unfold stageSequence
  split
  case h_1 => exact h
  case h_2 q _ =>
    dsimp only
    split_ifs
    · unfold takeTap
      dsimp only
      split_ifs
      · exact kept rfl rfl ⟨_, rfl⟩
      · exact kept rfl rfl ⟨_, List.append_assoc ..⟩
    · exact kept rfl rfl ⟨[], (List.append_nil _).symm⟩
    · exact kept rfl rfl ⟨[], (List.append_nil _).symm⟩

end

theorem gestureStages_settled (f : GestureInput) {g : GestureEngine} {v : Service} (hv : g.service = some v)
    (htap : g.tap = none) : Settled v g.counter (gestureStages f g) :=
  have start : Going v g.counter { engine := g, events := [], granted := false } := ⟨rfl, htap, .inl ⟨v, hv, rfl, rfl⟩⟩
  stageSequence_settled (stageSteps_settled (stageClaims_settled (stageReference_going (stageConfirmations_going
    (stageEnds_going start)))))

/-- With no tap pending a gesture in service stays in service through a frame, or its end is generated. -/
theorem gestureFrame_stays_or_ends (f : GestureInput) (now : Time) {g : GestureEngine} {v : Service}
    (hv : g.service = some v) (htap : g.tap = none) :
    (Serves v (gestureFrame f now g).1.service ∧ (gestureFrame f now g).1.counter = g.counter) ∨
      (EndGiven v (gestureFrame f now g).2 ∧ ((gestureFrame f now g).1.counter = g.counter ∨
        (gestureFrame f now g).1.counter = instanceAfter g.counter)) := by
  rw [gestureFrame_eq]
  obtain ⟨hserves, hcounter⟩ | ⟨hgiven, hcounter⟩ := gestureStages_settled f hv htap
  · by_cases hlate : lockIsLate now (gestureStages f g).engine = true
    · obtain ⟨x, hx, hinst, hgesture⟩ := hserves
      right
      refine ⟨?_, .inl hcounter⟩
      simp only [hlate, if_true, hx, Option.toList_some, List.map_cons, List.map_nil]
      exact endGiven_gestureEnded hinst hgesture _ _ _
    · left
      refine ⟨?_, hcounter⟩
      simp only [hlate]
      exact hserves
  · exact .inr ⟨(hgiven.append _).append _, hcounter⟩

/-- Settles O44. Each stage is the model's own; the gesture in service is followed through them in order. -/
theorem gestureInServiceStaysOrEnds : Obligations.GestureInServiceStaysOrEnds := by
  refine ⟨fun f now g => gestureFrame_eq f now g, fun g => by cases g <;> rfl, endsStage, confirmationsStage,
    referenceStage, claimsStage, stepsStage, sequenceStage, fun f now g v hv htap => ?_⟩
  refine (gestureFrame_stays_or_ends f now hv htap).imp ?_ ?_
  · rintro ⟨⟨x, hx, hinst, hgesture⟩, hcounter⟩
    exact ⟨x, hx, hinst, hgesture, hcounter⟩
  · rintro ⟨⟨e, he, hkind, hinst, htype⟩, hcounter⟩
    exact ⟨e, he, hkind, hinst, htype, hcounter⟩

end Sys2Proof.Machine
end
